-- ==== Sys2Proof/Word.lean ====
section
/-! DEFINITION. The word and byte types of the BCNRAND core (10_state.md R21, R22, R28 to R30). -/

namespace Sys2Proof

/-- A host register, an operand or a command word: 64 bits (10_state.md R30, 30_encoding.md R70). -/
abbrev Word := BitVec 64

/-- One byte of a register as the host's bus carries it (20_memory.md R53). -/
abbrev Byte := BitVec 8

/-- A state of the large-modulus generator: ZW = 53 bits (00_scope.md R5, 10_state.md R21). -/
abbrev ZVal := BitVec 53

/-- A state of the small-modulus generator: WW = 32 bits (00_scope.md R5, 10_state.md R22). -/
abbrev WVal := BitVec 32

end Sys2Proof
end

