-- ==== Sys2Proof/Config.lean ====
section
/-! DEFINITION. What is fixed for the block and is not state (00_scope.md R4 to R8, R14; 10_state.md R35): the arithmetic constants,
the geometry of the jump-ahead tables, the two OPEN parameters and the free value the spec leaves. -/

namespace Sys2Proof.Config

/-- M1, the modulus of the large generator (00_scope.md R4). -/
def M1 : Nat := 3 ^ 33

/-- A1, the multiplier of the large generator (00_scope.md R4). -/
def A1 : Nat := 2 ^ 25

/-- M2, the modulus of the small generator (00_scope.md R4). It needs 32 bits (90_conflicts.md C3). -/
def M2 : Nat := 2 ^ 31 + 1

/-- A2, the multiplier of the small generator (00_scope.md R4). -/
def A2 : Nat := 39373

/-- HZ, the closing multiplier of the Z jump-ahead (00_scope.md R5). -/
def HZ : Nat := M1 / 2

/-- SCH_Q of Schrage's method (00_scope.md R5). -/
def schQ : Nat := M1 / A1

/-- SCH_R of Schrage's method (00_scope.md R5). -/
def schR : Nat := M1 % A1

/-- IDX_BITS, the width of a jump index (00_scope.md R6). -/
abbrev idxBits : Nat := 55

/-- LANES - 1, the index of the last lane context. OPEN: 00_scope.md R7 leaves LANES to the implementation, from 1 to 65536, which is
what 16 bits of LANES - 1 say. No proof can see its value. -/
opaque lastLane : BitVec 16

/-- BASE / 64. OPEN: 00_scope.md R8 leaves BASE to the platform, a multiple of 64. No proof can see its value. -/
opaque window : Nat

/-- The free value of bits 63:1 of the n-th STATUS read made while BUSY = 1 (70_reset_and_hazards.md R236,
93_implementation_defined.md I-4). -/
opaque busyStatusBits : Nat → BitVec 63

end Sys2Proof.Config
end

