-- ==== Sys2Proof/Syntax.lean ====
section
/-! DEFINITION. The commands of the BCNRAND core, one constructor per row of spec/opcode_table.json (30_encoding.md R71). A command plays
the part of an instruction. -/

namespace Sys2Proof

/-- A command. A lane is the index of a lane context, the LANE field of the command word (30_encoding.md R72); every other operand is a
register of the block (R76). -/
inductive Instr where
  /-- MULMOD1, OPC 0x01 (40_wide_modmul.md R103). -/
  | mulmod1
  /-- MULMOD2, OPC 0x02 (40_wide_modmul.md R104). -/
  | mulmod2
  /-- STEPZ, OPC 0x03 (41_generators.md R123). -/
  | stepz (lane : Nat)
  /-- STEPW, OPC 0x04 (41_generators.md R124). -/
  | stepw (lane : Nat)
  /-- INITTAB, OPC 0x05 (42_jump_ahead.md R149). -/
  | inittab
  /-- TREADZ, OPC 0x06 (42_jump_ahead.md R150). -/
  | treadz
  /-- TREADW, OPC 0x07 (42_jump_ahead.md R151). -/
  | treadw
  /-- SEED, OPC 0x08 (42_jump_ahead.md R152). -/
  | seed (lane : Nat)
  /-- NEXT, OPC 0x09 (43_combined_stream.md R171). -/
  | next (lane : Nat)
  /-- LDSTATE, OPC 0x0A (44_state_access.md R180). -/
  | ldstate (lane : Nat)
  /-- RDSTATE, OPC 0x0B (44_state_access.md R181). -/
  | rdstate (lane : Nat)
deriving DecidableEq, Repr

end Sys2Proof
end

