-- ==== Sys2Proof/Machine/State.lean ====
section
/-! DEFINITION. The state of the BCNRAND core as plain data, the reasons a step can stop, and the state after reset (10_state.md,
70_reset_and_hazards.md R231). -/

namespace Sys2Proof.Machine

/-! ### Error codes (60_exceptions.md R201) -/

/-- The error code of a completed command, the field STATUS.ERR. Codes 10 to 15 are never produced (60_exceptions.md R201). -/
inductive ErrCode where
  /-- Code 0: success. -/
  | none
  /-- Code 1: the word decodes to no command. -/
  | illegal
  /-- Code 2: LANE >= LANES. -/
  | lane
  /-- Code 3: TV = 0. -/
  | notables
  /-- Code 4: V[l] = 0. -/
  | nostate
  /-- Code 5: a multiplier operand is too wide. -/
  | operand
  /-- Code 6: a SEED index is 2^55 or more. -/
  | range
  /-- Code 7: LDSTATE with z >= M1 or w >= M2. -/
  | badstate
  /-- Code 8: LDSTATE with z = 0 or w = 0. -/
  | zero
  /-- Code 9: a table row above 10 or a column above 31. -/
  | tindex
deriving DecidableEq, Repr

/-! ### Parts of the state -/

/-- The values Z[l] and W[l] of a valid lane context (10_state.md R21, R22). -/
structure Lane where
  z : ZVal
  w : WVal
deriving DecidableEq, Repr

/-- The two multiplier-power tables: 11 rows (i = 0..10) by 32 columns (j = 0..31) each (10_state.md R25). -/
structure Tables where
  tz : Vector (Vector ZVal 32) 11
  tw : Vector (Vector WVal 32) 11
deriving DecidableEq, Repr

/-- The OPEN parameters of one block. lastLane is LANES - 1 and window is BASE / 64, so that every value is a legal choice
(00_scope.md R7, R8). They are configuration: no step changes them (10_state.md R35). -/
structure Params where
  lastLane : BitVec 16
  window : Nat
deriving DecidableEq, Repr

/-- One access the host makes: a read of size bytes, or a write of the given bytes (the first at the lowest address), at a byte address.
Any address and any size can be asked for; 20_memory.md R52 says which are accepted. -/
inductive Access where
  | read (addr size : Nat)
  | write (addr : Nat) (data : List Byte)
deriving DecidableEq, Repr

/-- What happens next, in the one interleaving of 20_memory.md R60: a host access, a turn of the core agent, or an assertion of the reset
input (70_reset_and_hazards.md R230). -/
inductive Event where
  | host (a : Access)
  | core
  | reset
deriving DecidableEq, Repr

/-! ### The state -/

/-- Every piece of state of the block (10_state.md), the parameters it was built with, and the model's own record of the outside: events
(what the outside does next), returned (the bytes each read gave the host, newest first) and draws (how many free values were drawn). -/
structure State where
  /-- LANES and BASE (00_scope.md R7, R8). -/
  params : Params
  /-- The valid lane contexts, keyed by lane, keys strictly rising. Lane l has an entry exactly when V[l] = 1 (10_state.md R21 to R23). -/
  lanes : List (Nat × Lane)
  /-- TZ and TW. Present exactly when TV = 1 (10_state.md R25, R26). -/
  tables : Option Tables
  /-- OPA (10_state.md R28). -/
  opa : Word
  /-- OPB (10_state.md R28). -/
  opb : Word
  /-- RES0 (10_state.md R29). -/
  res0 : Word
  /-- RES1 (10_state.md R29). -/
  res1 : Word
  /-- BUSY: a command is pending (10_state.md R27). -/
  busy : Bool
  /-- PCMD: the latched command word, meaningful while BUSY = 1 (10_state.md R27). -/
  pcmd : Word
  /-- STATUS.STICKY (10_state.md R33). -/
  sticky : Bool
  /-- STATUS.ERR (10_state.md R33). -/
  err : ErrCode
  /-- The model's own: what happens next (log 5). -/
  events : List Event
  /-- The model's own: the bytes each read returned, newest first (log 6). -/
  returned : List (List Byte)
  /-- The model's own: how many free values have been drawn (log 7). -/
  draws : Nat
deriving DecidableEq, Repr

/-! ### Why a step can stop -/

/-- The faults. Each is an error of the host program that the spec tells a model to stop on (60_exceptions.md R209); the block itself has no
trap. All three are safe: the model stops where a real part might go on. -/
inductive Fault where
  /-- Raised by an access that is not an 8-byte access at BASE + 8n, n = 0..7 (20_memory.md R52, 93_implementation_defined.md I-5). Safe. -/
  | busError
  /-- Raised by a write to OPA, OPB or CMD while BUSY = 1 (70_reset_and_hazards.md R234, I-6). Safe. -/
  | writeWhileBusy
  /-- Raised by a read of RES0 or RES1 while BUSY = 1 (70_reset_and_hazards.md R235, I-7). Safe. -/
  | resultReadWhileBusy
deriving DecidableEq, Repr

/-- The refusals. None is raised: every command of the opcode table has its meaning. -/
inductive Refusal where
  /-- Kept for an arm of exec that has no meaning yet; there is none. Safe. -/
  | notModelled (mnemonic : String)
deriving DecidableEq, Repr

/-! ### Reset -/

/-- The parameters of the block at hand, which no proof can see (00_scope.md R7, R8). -/
def Params.given : Params where
  lastLane := Config.lastLane
  window := Config.window

/-- A block with the given parameters right after reset (70_reset_and_hazards.md R231), nothing asked of it yet. -/
def State.atReset (p : Params) : State where
  params := p
  lanes := []
  tables := .none
  opa := 0#64
  opb := 0#64
  res0 := 0#64
  res1 := 0#64
  busy := false
  pcmd := 0#64 -- DESIGN CHOICE (log 4): the spec gives no value, and none is ever read
  sticky := false
  err := .none
  events := []
  returned := []
  draws := 0

/-- The machine right after reset (70_reset_and_hazards.md R231). -/
def State.reset : State := State.atReset Params.given

end Sys2Proof.Machine
end

