-- ==== Sys2Proof/Machine/Arith.lean ====
section
/-! DEFINITION. The functions of the five components over mathematical integers (00_scope.md R9, R10): the multiplier, the two step
functions, the multiplier-power tables, the jump-ahead engine and the combiner. -/

namespace Sys2Proof.Machine

/-! ### The wide modular multiplier (40_wide_modmul.md) -/

/-- The exact product reduced modulo m (40_wide_modmul.md R102). -/
def mulMod (m x y : Nat) : Nat := x * y % m

/-- MulMod1 (40_wide_modmul.md R100). -/
def mulMod1 (x y : Nat) : Nat := mulMod Config.M1 x y

/-- MulMod2 (40_wide_modmul.md R101). -/
def mulMod2 (x y : Nat) : Nat := mulMod Config.M2 x y

/-! ### The generators (41_generators.md) -/

/-- StepZ (41_generators.md R120). -/
def stepZ (z : Nat) : Nat := mulMod1 Config.A1 z

/-- StepW (41_generators.md R122). -/
def stepW (w : Nat) : Nat := mulMod2 Config.A2 w

/-- Schrage's method for StepZ, a permitted technique (41_generators.md R121). No command uses it. -/
def schrageStepZ (z : Nat) : Int :=
  let t : Int := ((z % Config.schQ : Nat) : Int) * (Config.A1 : Nat) - ((z / Config.schQ : Nat) : Int) * (Config.schR : Nat)
  if t < 0 then t + (Config.M1 : Nat) else t

/-! ### The multiplier-power tables (42_jump_ahead.md R141, R142, R148) -/

/-- x squared n times modulo m. -/
def squareTimes (m : Nat) : Nat → Nat → Nat
  | 0, x => x
  | n + 1, x => squareTimes m n (mulMod m x x)

/-- T[i][1] by the construction recurrence: the multiplier in row 0, then five squarings a row (42_jump_ahead.md R148). -/
def rowBase (a m : Nat) : Nat → Nat
  | 0 => a % m
  | i + 1 => squareTimes m 5 (rowBase a m i)

/-- T[i][j] by the construction recurrence (42_jump_ahead.md R148). R141 and R142 give its closed form, which a statement says. -/
def tableCell (a m i : Nat) : Nat → Nat
  | 0 => 1
  | 1 => rowBase a m i
  | j + 2 => mulMod m (tableCell a m i (j + 1)) (rowBase a m i)

/-- Both tables as INITTAB fills them (42_jump_ahead.md R149). -/
def builtTables : Tables where
  tz := Vector.ofFn fun i => Vector.ofFn fun j => BitVec.ofNat 53 (tableCell Config.A1 Config.M1 i j)
  tw := Vector.ofFn fun i => Vector.ofFn fun j => BitVec.ofNat 32 (tableCell Config.A2 Config.M2 i j)

/-- The cell TZ[i][j]. -/
def Tables.tzCell (t : Tables) (i : Fin 11) (j : Fin 32) : Nat := (t.tz[i][j]).toNat

/-- The cell TW[i][j]. -/
def Tables.twCell (t : Tables) (i : Fin 11) (j : Fin 32) : Nat := (t.tw[i][j]).toNat

/-! ### The jump-ahead engine (42_jump_ahead.md R140, R143, R144) -/

/-- d_i = k[5i+4 : 5i] (42_jump_ahead.md R140). -/
def digit (k i : Nat) : Fin 32 := ⟨k / 2 ^ (5 * i) % 32, Nat.mod_lt _ (by decide)⟩

/-- The accumulator of JumpZ after the digits d_0 to d_n: the seed bit, then table row i-1 for each digit d_i
(42_jump_ahead.md R143). -/
def jumpZFold (t : Tables) (k : Nat) : (n : Nat) → n ≤ 10 → Nat
  | 0, _ => 2 ^ (digit k 0).val
  | n + 1, h => mulMod1 (jumpZFold t k n (Nat.le_of_succ_le h)) (t.tzCell ⟨n, Nat.lt_succ_of_lt h⟩ (digit k (n + 1)))

/-- JumpZ, the literal algorithm with its row offset and closing multiplier (42_jump_ahead.md R143). -/
def jumpZ (t : Tables) (k : Nat) : Nat := mulMod1 (jumpZFold t k 10 (Nat.le_refl 10)) Config.HZ

/-- The accumulator of JumpW after the first n digits: 1, then table row i for each digit d_i (42_jump_ahead.md R144). -/
def jumpWFold (t : Tables) (k : Nat) : (n : Nat) → n ≤ 11 → Nat
  | 0, _ => 1
  | n + 1, h => mulMod2 (jumpWFold t k n (Nat.le_of_succ_le h)) (t.twCell ⟨n, h⟩ (digit k n))

/-- JumpW, the literal algorithm with its closing multiply (42_jump_ahead.md R144). -/
def jumpW (t : Tables) (k : Nat) : Nat := mulMod2 (jumpWFold t k 11 (Nat.le_refl 11)) Config.A2

/-! ### The combiner (43_combined_stream.md) -/

/-- Combine(w, z) = (w - z) mod 2^31, the non-negative remainder (43_combined_stream.md R170, 00_scope.md R10). -/
def combine (w z : Nat) : Nat := (((w : Int) - (z : Int)) % (2 ^ 31 : Int)).toNat

end Sys2Proof.Machine
end

