-- ==== Sys2Proof/Machine/Flags.lean ====
section
/-! DEFINITION. The flags: the code of an error, STATUS.TV and V[l] as bits, the STATUS word, and the one update of STATUS when a command
completes (10_state.md R33, 60_exceptions.md R201, R203). -/

namespace Sys2Proof.Machine

/-- The 4-bit code of an error (60_exceptions.md R201). -/
def ErrCode.code : ErrCode → BitVec 4
  | .none => 0#4
  | .illegal => 1#4
  | .lane => 2#4
  | .notables => 3#4
  | .nostate => 4#4
  | .operand => 5#4
  | .range => 6#4
  | .badstate => 7#4
  | .zero => 8#4
  | .tindex => 9#4

/-- STATUS.TV: the tables hold their values (10_state.md R26). -/
def State.TV (s : State) : Bool := s.tables.isSome

/-- STATUS while BUSY = 0: ERR in bits 7:4, STICKY in bit 2, TV in bit 1, every other bit 0 (10_state.md R33). -/
def State.idleStatus (s : State) : Word :=
  BitVec.ofNat 64 (s.err.code.toNat * 2 ^ 4 + s.sticky.toNat * 2 ^ 2 + s.TV.toNat * 2 ^ 1)

/-- STATUS while BUSY = 1: bit 0 reads 1, bits 63:1 are the next free value (70_reset_and_hazards.md R236). -/
def State.busyStatus (s : State) : Word :=
  BitVec.ofNat 64 ((Config.busyStatusBits s.draws).toNat * 2 ^ 1 + 1)

/-- The completion of a command with a code (60_exceptions.md R203): ERR is the code, STICKY remembers a non-zero one, BUSY becomes 0. -/
def State.complete (s : State) (c : ErrCode) : State :=
  { s with err := c, sticky := s.sticky || decide (c ≠ .none), busy := false }

end Sys2Proof.Machine
end

