-- ==== Sys2Proof/Machine/Ops.lean ====
section
/-! DEFINITION. The operations every command is made of: the parameters, the lane contexts, the result registers, the checks in the order of
60_exceptions.md R202, and the completion of a command, with or without an error. -/

namespace Sys2Proof.Machine

/-! ### The parameters -/

/-- LANES, from 1 to 65536 (00_scope.md R7). -/
def Params.LANES (p : Params) : Nat := p.lastLane.toNat + 1

/-- BASE, a multiple of 64 (00_scope.md R8). -/
def Params.BASE (p : Params) : Nat := 64 * p.window

/-! ### The lane contexts (10_state.md R21 to R23) -/

/-- The context of lane l, where it has one. -/
def laneLookup : List (Nat × Lane) → Nat → Option Lane
  | [], _ => .none
  | (k, c) :: rest, l => if k = l then some c else laneLookup rest l

/-- The contexts with lane l's set to c, in the same canonical order. -/
def laneInsert : List (Nat × Lane) → Nat → Lane → List (Nat × Lane)
  | [], l, c => [(l, c)]
  | (k, d) :: rest, l, c =>
    if l < k then (l, c) :: (k, d) :: rest
    else if l = k then (l, c) :: rest
    else (k, d) :: laneInsert rest l c

/-- The canonical form: keys strictly rising. -/
def lanesWf : List (Nat × Lane) → Bool
  | [] => true
  | [_] => true
  | (k, _) :: (k', d) :: rest => decide (k < k') && lanesWf ((k', d) :: rest)

/-- Z[l] and W[l], where V[l] = 1 (10_state.md R21 to R23). -/
def State.lane (s : State) (l : Nat) : Option Lane := laneLookup s.lanes l

/-- V[l] (10_state.md R23). -/
def State.V (s : State) (l : Nat) : Bool := (s.lane l).isSome

/-- Writes Z[l] and W[l] and sets V[l]. -/
def State.setLane (s : State) (l : Nat) (c : Lane) : State := { s with lanes := laneInsert s.lanes l c }

/-! ### The result registers (10_state.md R29) -/

/-- RES0 <- zext_64(v). -/
def State.setRes0 (s : State) (v : Nat) : State := { s with res0 := BitVec.ofNat 64 v }

/-- RES1 <- zext_64(v). -/
def State.setRes1 (s : State) (v : Nat) : State := { s with res1 := BitVec.ofNat 64 v }

/-! ### Checks (60_exceptions.md R201, R202)

The rest of a command's pseudocode stands after its check. It answers the state with the command's writes made, or the code of the first
check that fails. -/

/-- raise Error(e) unless the condition holds. -/
def require (ok : Bool) (e : ErrCode) (rest : Except ErrCode State) : Except ErrCode State :=
  if ok then rest else .error e

/-- LANE unless l < LANES (30_encoding.md R72). -/
def State.checkLane (s : State) (l : Nat) (rest : Except ErrCode State) : Except ErrCode State :=
  require (decide (l < s.params.LANES)) .lane rest

/-- NOTABLES unless TV = 1 (10_state.md R26). -/
def State.withTables (s : State) (rest : Tables → Except ErrCode State) : Except ErrCode State :=
  match s.tables with
  | .none => .error .notables
  | some t => rest t

/-- NOSTATE unless V[l] = 1 (10_state.md R23). -/
def State.withContext (s : State) (l : Nat) (rest : Lane → Except ErrCode State) : Except ErrCode State :=
  match s.lane l with
  | .none => .error .nostate
  | some c => rest c

/-- TINDEX unless OPA and OPB are a row and a column (42_jump_ahead.md R150, R151). -/
def withIndex (ij : Option (Fin 11 × Fin 32)) (rest : Fin 11 → Fin 32 → Except ErrCode State) : Except ErrCode State :=
  match ij with
  | .none => .error .tindex
  | some (i, j) => rest i j

/-! ### Completion (00_scope.md R12, 60_exceptions.md R200, R203, R204) -/

/-- raise Error(e): the command ends at once. Nothing but STATUS changes: no trap is entered, no state is saved and no control is
transferred (60_exceptions.md R200, R204, R206). So there is no return from one either: the next CMD write proceeds as after a success. -/
def State.raiseError (s : State) (e : ErrCode) : State := s.complete e

/-- finish(): the command ends successfully, its writes being made. -/
def State.finish (s : State) : State := s.complete .none

/-- The state after a command performed on s. -/
def State.afterCommand (s : State) : Except ErrCode State → State
  | .ok t => t.finish
  | .error e => s.raiseError e

/-- One atomic step of the core agent (20_memory.md R59): every command completes, so the outcome is always a next state. -/
def State.perform (s : State) (r : Except ErrCode State) : Host.Outcome State Fault Refusal :=
  .next (s.afterCommand r)

end Sys2Proof.Machine
end

