-- ==== Sys2Proof/Machine/CombinedStream.lean ====
section
/-! DEFINITION. NEXT (43_combined_stream.md). -/

namespace Sys2Proof.Machine

/-- NEXT (43_combined_stream.md R171). -/
def execNext (l : Nat) (s : State) : Host.Outcome State Fault Refusal :=
  s.perform <|
    s.checkLane l <|
      s.withContext l fun c =>
        let z := stepZ c.z.toNat
        let w := stepW c.w.toNat
        .ok ((s.setLane l { z := BitVec.ofNat 53 z, w := BitVec.ofNat 32 w }).setRes0 (combine w z))

end Sys2Proof.Machine
end

