-- ==== Sys2Proof/Machine/Generators.lean ====
section
/-! DEFINITION. STEPZ and STEPW (41_generators.md). -/

namespace Sys2Proof.Machine

/-- STEPZ (41_generators.md R123). -/
def execStepz (l : Nat) (s : State) : Host.Outcome State Fault Refusal :=
  s.perform <|
    s.checkLane l <|
      s.withContext l fun c =>
        let z := stepZ c.z.toNat
        .ok ((s.setLane l { c with z := BitVec.ofNat 53 z }).setRes0 z)

/-- STEPW (41_generators.md R124). -/
def execStepw (l : Nat) (s : State) : Host.Outcome State Fault Refusal :=
  s.perform <|
    s.checkLane l <|
      s.withContext l fun c =>
        let w := stepW c.w.toNat
        .ok ((s.setLane l { c with w := BitVec.ofNat 32 w }).setRes0 w)

end Sys2Proof.Machine
end

