-- ==== Sys2Proof/Machine/Operands.lean ====
section
/-! DEFINITION. The operand forms (30_encoding.md R76, R78): OPA and OPB as unsigned integers, and the ranges a command may need of them,
checked by value when the command is performed. -/

namespace Sys2Proof.Machine

/-- OPA, all 64 bits, as an unsigned integer (30_encoding.md R76). -/
abbrev State.opaNat (s : State) : Nat := s.opa.toNat

/-- OPB, all 64 bits, as an unsigned integer (30_encoding.md R76). -/
abbrev State.opbNat (s : State) : Nat := s.opb.toNat

/-- Both operands fit n bits: n = 53 for MULMOD1, 32 for MULMOD2, 55 for SEED (30_encoding.md R76). -/
def State.operandsFit (s : State) (n : Nat) : Bool := decide (s.opaNat < 2 ^ n ∧ s.opbNat < 2 ^ n)

/-- OPA and OPB as a row and a column of a table, where they are one (30_encoding.md R76: i <= 10, j <= 31; never truncated). -/
def State.tableIndex (s : State) : Option (Fin 11 × Fin 32) :=
  if h : s.opaNat < 11 ∧ s.opbNat < 32 then some (⟨s.opaNat, h.1⟩, ⟨s.opbNat, h.2⟩) else .none

/-- Both operands are below their moduli (44_state_access.md R180, the BADSTATE check). -/
def State.operandsReduced (s : State) : Bool := decide (s.opaNat < Config.M1 ∧ s.opbNat < Config.M2)

/-- Neither operand is 0 (44_state_access.md R180, the ZERO check). -/
def State.operandsNonzero (s : State) : Bool := decide (s.opaNat ≠ 0 ∧ s.opbNat ≠ 0)

end Sys2Proof.Machine
end

