-- ==== Sys2Proof/Machine/JumpAhead.lean ====
section
/-! DEFINITION. INITTAB, TREADZ, TREADW and SEED (42_jump_ahead.md). -/

namespace Sys2Proof.Machine

/-- INITTAB (42_jump_ahead.md R149). -/
def execInittab (s : State) : Host.Outcome State Fault Refusal :=
  s.perform <|
    .ok { s with tables := some builtTables }

/-- TREADZ (42_jump_ahead.md R150). -/
def execTreadz (s : State) : Host.Outcome State Fault Refusal :=
  s.perform <|
    s.withTables fun t =>
      withIndex s.tableIndex fun i j =>
        .ok (s.setRes0 (t.tzCell i j))

/-- TREADW (42_jump_ahead.md R151). -/
def execTreadw (s : State) : Host.Outcome State Fault Refusal :=
  s.perform <|
    s.withTables fun t =>
      withIndex s.tableIndex fun i j =>
        .ok (s.setRes0 (t.twCell i j))

/-- SEED (42_jump_ahead.md R152). -/
def execSeed (l : Nat) (s : State) : Host.Outcome State Fault Refusal :=
  s.perform <|
    s.checkLane l <|
      s.withTables fun t =>
        require (s.operandsFit Config.idxBits) .range <|
          let z := jumpZ t s.opaNat
          let w := jumpW t s.opbNat
          .ok (((s.setLane l { z := BitVec.ofNat 53 z, w := BitVec.ofNat 32 w }).setRes0 z).setRes1 w)

end Sys2Proof.Machine
end

