-- ==== Sys2Proof/Machine/Multiplier.lean ====
section
/-! DEFINITION. MULMOD1 and MULMOD2 (40_wide_modmul.md). -/

namespace Sys2Proof.Machine

/-- MULMOD1 (40_wide_modmul.md R103). -/
def execMulmod1 (s : State) : Host.Outcome State Fault Refusal :=
  s.perform <|
    require (s.operandsFit 53) .operand <|
      .ok (s.setRes0 (mulMod1 s.opaNat s.opbNat))

/-- MULMOD2 (40_wide_modmul.md R104). -/
def execMulmod2 (s : State) : Host.Outcome State Fault Refusal :=
  s.perform <|
    require (s.operandsFit 32) .operand <|
      .ok (s.setRes0 (mulMod2 s.opaNat s.opbNat))

end Sys2Proof.Machine
end

