-- ==== Sys2Proof/Machine/StateAccess.lean ====
section
/-! DEFINITION. LDSTATE and RDSTATE (44_state_access.md). -/

namespace Sys2Proof.Machine

/-- LDSTATE (44_state_access.md R180). BADSTATE is checked before ZERO (60_exceptions.md R202). -/
def execLdstate (l : Nat) (s : State) : Host.Outcome State Fault Refusal :=
  s.perform <|
    s.checkLane l <|
      require s.operandsReduced .badstate <|
        require s.operandsNonzero .zero <|
          .ok (s.setLane l { z := BitVec.ofNat 53 s.opaNat, w := BitVec.ofNat 32 s.opbNat })

/-- RDSTATE (44_state_access.md R181). -/
def execRdstate (l : Nat) (s : State) : Host.Outcome State Fault Refusal :=
  s.perform <|
    s.checkLane l <|
      s.withContext l fun c =>
        .ok ((s.setRes0 c.z.toNat).setRes1 c.w.toNat)

end Sys2Proof.Machine
end

