-- ==== Sys2Proof/Machine/Dispatch.lean ====
section
/-! DEFINITION. The meaning of every command, one arm each. -/

namespace Sys2Proof.Machine

def exec (i : Instr) (s : State) : Host.Outcome State Fault Refusal :=
  match i with
  | .mulmod1 => Sys2Proof.Machine.execMulmod1 s
  | .mulmod2 => Sys2Proof.Machine.execMulmod2 s
  | .stepz lane => Sys2Proof.Machine.execStepz lane s
  | .stepw lane => Sys2Proof.Machine.execStepw lane s
  | .inittab => Sys2Proof.Machine.execInittab s
  | .treadz => Sys2Proof.Machine.execTreadz s
  | .treadw => Sys2Proof.Machine.execTreadw s
  | .seed lane => Sys2Proof.Machine.execSeed lane s
  | .next lane => Sys2Proof.Machine.execNext lane s
  | .ldstate lane => Sys2Proof.Machine.execLdstate lane s
  | .rdstate lane => Sys2Proof.Machine.execRdstate lane s

end Sys2Proof.Machine
end

