-- ==== Sys2Proof/WellFormed.lean ====
section
/-! DEFINITION. Which commands a 64-bit word can encode: the LANE field has 16 bits (30_encoding.md R70, R72). A lane at or above LANES is
legal to encode (R72), so LANES has no part here. -/

namespace Sys2Proof

/-- A lane index fits the 16-bit LANE field (30_encoding.md R72). -/
abbrev laneFits (lane : Nat) : Prop := lane < 2 ^ 16

/-- A command that some word encodes. -/
def Instr.wf : Instr → Bool
  | .mulmod1 => true
  | .mulmod2 => true
  | .stepz lane => decide (laneFits lane)
  | .stepw lane => decide (laneFits lane)
  | .inittab => true
  | .treadz => true
  | .treadw => true
  | .seed lane => decide (laneFits lane)
  | .next lane => decide (laneFits lane)
  | .ldstate lane => decide (laneFits lane)
  | .rdstate lane => decide (laneFits lane)

end Sys2Proof
end

