-- ==== Sys2Proof/Decode.lean ====
section
/-! DEFINITION. The command encoding CMD64 (30_encoding.md R70 to R79): the byte order of a word, the fields, the decoder, total on every
word and rejecting by name, and the encoder. -/

namespace Sys2Proof

/-! ### Byte order (20_memory.md R53) -/

/-- The eight bytes of a word, the first at the lowest address: byte b holds bits [8b+7 : 8b] (20_memory.md R53). -/
def bytesOfWord (v : Word) : List Byte :=
  (List.range 8).map fun b => v.extractLsb' (8 * b) 8

/-- The word whose bytes, from the lowest address up, are the given ones (20_memory.md R53). -/
def wordOfBytes : List Byte → Word
  | [] => 0#64
  | b :: bs => (wordOfBytes bs <<< 8) ||| b.setWidth 64

/-! ### The fields of CMD64 (30_encoding.md R70) -/

/-- OPC, bits 7:0. -/
def opcField (w : Word) : BitVec 8 := w.extractLsb' 0 8

/-- RSV0, bits 15:8. -/
def rsv0Field (w : Word) : BitVec 8 := w.extractLsb' 8 8

/-- LANE, bits 31:16. -/
def laneField (w : Word) : BitVec 16 := w.extractLsb' 16 16

/-- RSV1, bits 63:32. -/
def rsv1Field (w : Word) : BitVec 32 := w.extractLsb' 32 32

/-! ### Decoding (30_encoding.md R77) -/

/-- Why a word is ILLEGAL. The block reports all of them alike, with error code ILLEGAL (30_encoding.md R75: every illegal word behaves the
same way). -/
inductive DecodeError where
  /-- RSV0 or RSV1 is not 0 (30_encoding.md R73). -/
  | reservedBits
  /-- OPC is 0x00 or from 0x0C to 0xFF (30_encoding.md R75). -/
  | unassignedOpcode
  /-- LANE is not 0 on a command without a lane (30_encoding.md R74). -/
  | laneOnLanelessCommand
  /-- The bytes are not exactly one 64-bit word (30_encoding.md R79). Only decodeBytes answers it: the window accepts no such access. -/
  | notOneWord
deriving DecidableEq, Repr

/-- A command without a lane: LANE must be 0 (30_encoding.md R74). -/
def laneless (lane : BitVec 16) (i : Instr) : Except DecodeError Instr :=
  if lane = 0#16 then .ok i else .error .laneOnLanelessCommand

/-- The row of 30_encoding.md R71 for an operation code and a LANE field. -/
def decodeRow (opc : Nat) (lane : BitVec 16) : Except DecodeError Instr :=
  match opc with
  | 0x01 => laneless lane .mulmod1
  | 0x02 => laneless lane .mulmod2
  | 0x03 => .ok (.stepz lane.toNat)
  | 0x04 => .ok (.stepw lane.toNat)
  | 0x05 => laneless lane .inittab
  | 0x06 => laneless lane .treadz
  | 0x07 => laneless lane .treadw
  | 0x08 => .ok (.seed lane.toNat)
  | 0x09 => .ok (.next lane.toNat)
  | 0x0A => .ok (.ldstate lane.toNat)
  | 0x0B => .ok (.rdstate lane.toNat)
  | _ => .error .unassignedOpcode

/-- Decode of 30_encoding.md R77: total on every 64-bit word. -/
def decode (w : Word) : Except DecodeError Instr :=
  if rsv1Field w ≠ 0#32 ∨ rsv0Field w ≠ 0#8 then .error .reservedBits
  else decodeRow (opcField w).toNat (laneField w)

/-- Decode of a command as bytes, the first at the lowest address. -/
def decodeBytes (bs : List Byte) : Except DecodeError Instr :=
  if bs.length = 8 then decode (wordOfBytes bs) else .error .notOneWord

/-- The instruction the decoder reads from a row of the opcode table whose low nbits bits are w, the bits above being 0. -/
def decodeTableWord (nbits w : Nat) : Option Instr :=
  (decodeBytes (bytesOfWord (BitVec.ofNat 64 (w % 2 ^ nbits)))).toOption

/-! ### Encoding (30_encoding.md R70, R71, R80) -/

/-- Enc of 30_encoding.md R80: zext_64(lane[15:0] ++ 0x00 ++ OPC), that is LANE in bits 31:16, OPC in bits 7:0 and 0 elsewhere. -/
def encodeFields (opc lane : Nat) : Word := BitVec.ofNat 64 (lane % 2 ^ 16 * 2 ^ 16 + opc)

/-- The command word of a command. -/
def encode : Instr → Word
  | .mulmod1 => encodeFields 0x01 0
  | .mulmod2 => encodeFields 0x02 0
  | .stepz lane => encodeFields 0x03 lane
  | .stepw lane => encodeFields 0x04 lane
  | .inittab => encodeFields 0x05 0
  | .treadz => encodeFields 0x06 0
  | .treadw => encodeFields 0x07 0
  | .seed lane => encodeFields 0x08 lane
  | .next lane => encodeFields 0x09 lane
  | .ldstate lane => encodeFields 0x0A lane
  | .rdstate lane => encodeFields 0x0B lane

end Sys2Proof
end

