-- ==== Sys2Proof/Machine/Window.lean ====
section
/-! DEFINITION. The register window and the host's accesses to it (20_memory.md), with the BUSY protocol of 70_reset_and_hazards.md R233 to
R236. -/

namespace Sys2Proof.Machine

/-- The registers of the window, in the order of their offsets (20_memory.md R51). -/
inductive Reg where
  | opa
  | opb
  | cmd
  | status
  | res0
  | res1
  | cfg
  | reserved
deriving DecidableEq, Repr

/-- The register at an offset from BASE (20_memory.md R51). An offset that is not a multiple of 8, or is outside the window, is none. -/
def regAt : Nat → Option Reg
  | 0x00 => some .opa
  | 0x08 => some .opb
  | 0x10 => some .cmd
  | 0x18 => some .status
  | 0x20 => some .res0
  | 0x28 => some .res1
  | 0x30 => some .cfg
  | 0x38 => some .reserved
  | _ => .none

/-- The register that an access of the given size at a byte address reaches, where the access is accepted (20_memory.md R52). -/
def State.target (s : State) (addr size : Nat) : Option Reg :=
  if size = 8 ∧ s.params.BASE ≤ addr then regAt (addr - s.params.BASE) else .none

/-! ### Writes (20_memory.md R54 to R56) -/

/-- A command word is latched: PCMD is the word and BUSY becomes 1 (10_state.md R27). -/
def State.latch (s : State) (w : Word) : State := { s with pcmd := w, busy := true }

/-- A write that 70_reset_and_hazards.md R234 forbids while BUSY = 1. -/
def State.writeWhenIdle (s : State) (t : State) : Host.Outcome State Fault Refusal :=
  if s.busy then .fault .writeWhileBusy else .next t

/-- A write of the value v to a register. CMD latches a command (10_state.md R27, R32); the read-only registers and the reserved offset
ignore it (20_memory.md R54, R55). -/
def State.writeReg (s : State) (r : Reg) (v : Word) : Host.Outcome State Fault Refusal :=
  match r with
  | .opa => s.writeWhenIdle { s with opa := v }
  | .opb => s.writeWhenIdle { s with opb := v }
  | .cmd => s.writeWhenIdle (s.latch v)
  | .status => .next s
  | .res0 => .next s
  | .res1 => .next s
  | .cfg => .next s
  | .reserved => .next s

/-! ### Reads (20_memory.md R57) -/

/-- The bytes of a register's value reach the host (20_memory.md R53). -/
def State.answer (s : State) (v : Word) : State := { s with returned := bytesOfWord v :: s.returned }

/-- A read that 70_reset_and_hazards.md R235 forbids while BUSY = 1. -/
def State.readWhenIdle (s : State) (v : Word) : Host.Outcome State Fault Refusal :=
  if s.busy then .fault .resultReadWhileBusy else .next (s.answer v)

/-- CFG: LANES in bits 16:0, the other bits 0 (10_state.md R34). -/
def State.cfg (s : State) : Word := BitVec.ofNat 64 s.params.LANES

/-- A read of a register. No register changes (20_memory.md R57); a STATUS read while BUSY = 1 takes the next free value
(70_reset_and_hazards.md R236). -/
def State.readReg (s : State) (r : Reg) : Host.Outcome State Fault Refusal :=
  match r with
  | .opa => .next (s.answer s.opa)
  | .opb => .next (s.answer s.opb)
  | .cmd => .next (s.answer 0#64)
  | .status => if s.busy then .next { s.answer s.busyStatus with draws := s.draws + 1 } else .next (s.answer s.idleStatus)
  | .res0 => s.readWhenIdle s.res0
  | .res1 => s.readWhenIdle s.res1
  | .cfg => .next (s.answer s.cfg)
  | .reserved => .next (s.answer 0#64)

/-! ### Accesses -/

/-- One host access. An access that is not accepted is a host fault (20_memory.md R52). -/
def State.access (s : State) (a : Access) : Host.Outcome State Fault Refusal :=
  match a with
  | .read addr size =>
    match s.target addr size with
    | some r => s.readReg r
    | .none => .fault .busError
  | .write addr data =>
    match s.target addr data.length with
    | some r => s.writeReg r (wordOfBytes data)
    | .none => .fault .busError

/-- The reset input is asserted (70_reset_and_hazards.md R230, R239): every piece of the block's state takes its reset value and a pending
command is abandoned. The parameters and the outside's own record stay. -/
def State.assertReset (s : State) : State :=
  { State.atReset s.params with events := s.events, returned := s.returned, draws := s.draws }

/-- Decode of the pending command word (20_memory.md R59, 30_encoding.md R77): where the core agent fetches. -/
def State.fetch (s : State) : Except DecodeError Instr := decode s.pcmd

end Sys2Proof.Machine
end

