-- ==== Sys2Proof/Machine/CoreAgent.lean ====
section
/-! DEFINITION. The core agent's turn, and what each event of the interleaving does (20_memory.md R59, R60). -/

namespace Sys2Proof.Machine

/-- A turn of the core agent (20_memory.md R59): with BUSY = 1 it performs the pending command, an illegal word completing with ILLEGAL
(30_encoding.md R75); with BUSY = 0 its step is not enabled and nothing happens. -/
def State.coreTurn (s : State) : Host.Outcome State Fault Refusal :=
  if s.busy then
    match s.fetch with
    | .ok i => exec i s
    | .error _ => s.perform (.error .illegal)
  else .next s

/-- What one event does (20_memory.md R60, 70_reset_and_hazards.md R230). -/
def State.happen (s : State) (e : Event) : Host.Outcome State Fault Refusal :=
  match e with
  | .host a => s.access a
  | .core => s.coreTurn
  | .reset => .next s.assertReset

/-- The interleaving with a turn of the core agent put before everything else. An empty one needs no entry: the core agent has its turn
then (log 5). -/
def coreFirst : List Event → List Event
  | [] => []
  | e :: rest => .core :: e :: rest

end Sys2Proof.Machine
end

