-- ==== Sys2Proof/Machine/Step.lean ====
section
/-! DEFINITION. One step of the machine: one entry of the interleaving of host accesses, core steps and resets (20_memory.md R60). -/

namespace Sys2Proof.Machine

/-- One step: the next event happens. With none left, the core agent has its turn (log 5). -/
def step (s : State) : Host.Outcome State Fault Refusal :=
  match s.events with
  | [] => s.coreTurn
  | e :: rest => State.happen { s with events := rest } e

/-- s with the command word w latched, as a CMD write would latch it (10_state.md R27), and the core agent's turn next (log 14). -/
def State.withFetchWord (s : State) (nbits w : Nat) : State :=
  { s.latch (BitVec.ofNat 64 (w % 2 ^ nbits)) with events := coreFirst s.events }

end Sys2Proof.Machine
end

