-- ==== Sys2Proof/Machine/HostProgram.lean ====
section
/-! DEFINITION. The lines of a host program and the pseudo-instructions as entries of the interleaving (30_encoding.md R80, R81). The branches
of `poll` are the host's own: a poll is written with the number of reads it takes, which is the delay of the core agent. -/

namespace Sys2Proof.Machine

/-- off(REG), the offset of a register (20_memory.md R51). -/
def Reg.offset : Reg → Nat
  | .opa => 0x00
  | .opb => 0x08
  | .cmd => 0x10
  | .status => 0x18
  | .res0 => 0x20
  | .res1 => 0x28
  | .cfg => 0x30
  | .reserved => 0x38

/-- `wr REG, v`: MemWrite(BASE + off(REG), 8, v) (30_encoding.md R80). -/
def Params.wr (p : Params) (r : Reg) (v : Word) : Event := .host (.write (p.BASE + r.offset) (bytesOfWord v))

/-- `rd REG -> name`: MemRead(BASE + off(REG), 8) (30_encoding.md R80). -/
def Params.rd (p : Params) (r : Reg) : Event := .host (.read (p.BASE + r.offset) 8)

/-- `cmd MNEMONIC [lane]`: `wr CMD, Enc(MNEMONIC, lane)` (30_encoding.md R80). -/
def Params.cmd (p : Params) (i : Instr) : Event := p.wr .cmd (encode i)

/-- `poll`, where the core agent takes its step after n reads of STATUS: the read after it is the one that sees BUSY = 0
(30_encoding.md R81, 70_reset_and_hazards.md R237). -/
def Params.poll (p : Params) (n : Nat) : List Event := List.replicate n (p.rd .status) ++ [.core, p.rd .status]

/-- `call M [l] (a, b)`: `wr OPA, a`; `wr OPB, b`; `cmd M [l]`; `poll` (30_encoding.md R81). -/
def Params.call (p : Params) (i : Instr) (a b : Word) (n : Nat) : List Event :=
  [p.wr .opa a, p.wr .opb b, p.cmd i] ++ p.poll n

/-- `getres -> r0, r1`: `rd RES0 -> r0`; `rd RES1 -> r1` (30_encoding.md R81). -/
def Params.getres (p : Params) : List Event := [p.rd .res0, p.rd .res1]

end Sys2Proof.Machine
end

