-- ==== Sys2Proof/Safety.lean ====
section
/-! DEFINITION. What claims about the machine speak of: which host accesses are in order, what a safe step is, and the invariant of the
block's state. -/

namespace Sys2Proof.Machine

/-! ### Host accesses in order -/

/-- The size in bytes of an access. -/
def Access.size : Access → Nat
  | .read _ n => n
  | .write _ data => data.length

/-- The byte address of an access. -/
def Access.addr : Access → Nat
  | .read a _ => a
  | .write a _ => a

/-- The block accepts the access: 8 bytes at BASE + 8n, n = 0..7 (20_memory.md R52). -/
def State.accepts (s : State) (a : Access) : Prop :=
  a.size = 8 ∧ ∃ n < 8, a.addr = s.params.BASE + 8 * n

/-- An access at an offset from BASE that the BUSY protocol forbids while a command is pending: a write to OPA, OPB or CMD
(70_reset_and_hazards.md R234) or a read of RES0 or RES1 (R235). -/
def State.breaksBusyProtocol (s : State) (a : Access) : Prop :=
  s.busy = true ∧
    match a with
    | .write addr _ => addr = s.params.BASE + 0x00 ∨ addr = s.params.BASE + 0x08 ∨ addr = s.params.BASE + 0x10
    | .read addr _ => addr = s.params.BASE + 0x20 ∨ addr = s.params.BASE + 0x28

/-- The host makes no error now: what happens next is no access, or one that is accepted and keeps the BUSY protocol
(60_exceptions.md R209). -/
def State.hostInOrder (s : State) : Prop :=
  ∀ a rest, s.events = .host a :: rest → s.accepts a ∧ ¬ s.breaksBusyProtocol a

/-- A step from s is safe: it ends in a next state. -/
def State.safe (s : State) : Prop := ∃ t, step s = .next t

/-! ### The invariant -/

/-- Every cell of both tables holds its power (42_jump_ahead.md R141, R142). -/
def Tables.right (t : Tables) : Prop :=
  ∀ (i : Fin 11) (j : Fin 32),
    t.tzCell i j = Config.A1 ^ (j.val * 32 ^ i.val) % Config.M1 ∧ t.twCell i j = Config.A2 ^ (j.val * 32 ^ i.val) % Config.M2

/-- Z and W of a valid context are in range and not 0 (10_state.md R24). -/
def Lane.inRange (c : Lane) : Prop :=
  0 < c.z.toNat ∧ c.z.toNat < Config.M1 ∧ 0 < c.w.toNat ∧ c.w.toNat < Config.M2

/-- The invariant of the block's state. -/
structure State.Inv (s : State) : Prop where
  /-- The lane contexts are in canonical form. -/
  lanesCanonical : lanesWf s.lanes = true
  /-- Only lanes below LANES have a context (10_state.md R21). -/
  lanesExist : ∀ p ∈ s.lanes, p.1 < s.params.LANES
  /-- Every valid context is in range (10_state.md R24). -/
  contextsInRange : ∀ l c, s.lane l = some c → c.inRange
  /-- While TV = 1 the tables hold their powers (10_state.md R25). -/
  tablesRight : ∀ t, s.tables = some t → t.right
  /-- STICKY is set while ERR is not 0 (10_state.md R33, 60_exceptions.md R203). -/
  stickyCoversErr : s.err ≠ .none → s.sticky = true

end Sys2Proof.Machine
end

