-- ==== Sys2Proof/Certificates/Slice0/Obligations.lean ====
section
/-! DEFINITION. The statements for the provers. Each docstring names the rules of spec/ that the statement rests on. -/

open Sys2Proof Sys2Proof.Machine

namespace Sys2Proof.Statements

/-! ### Words the statements share -/

/-- The core agent has its turn next, and rest is what stands after it (20_memory.md R60; log 5). -/
def coreNext (s : State) (rest : List Event) : Prop :=
  s.events = .core :: rest ∨ (s.events = [] ∧ rest = [])

/-- s after a command that completed with the non-zero code e: STATUS only (60_exceptions.md R203, R204). -/
def failed (s : State) (e : ErrCode) : State := { s with err := e, sticky := true, busy := false }

/-- Lane l holds c after, and every other lane is as before. -/
def laneWritten (s t : State) (l : Nat) (c : Lane) : Prop :=
  t.lane l = some c ∧ ∀ i, i ≠ l → t.lane i = s.lane i

/-- A command without a lane has the one word w; any other word with its operation code completes with ILLEGAL
(30_encoding.md R73, R74). -/
def hasOneWord (w : Word) (i : Instr) : Prop :=
  decode w = .ok i ∧
    ∀ s : State, s.busy = true → opcField s.pcmd = opcField w → s.pcmd ≠ w → s.coreTurn = .next (failed s .illegal)

/-- A command with a lane has one word for each 16-bit lane; a word with its operation code and a reserved bit completes with ILLEGAL
(30_encoding.md R72, R73). -/
def hasLaneWords (opc : Nat) (mk : Nat → Instr) : Prop :=
  (∀ l < 2 ^ 16, decode (BitVec.ofNat 64 (l * 2 ^ 16 + opc)) = .ok (mk l)) ∧
    ∀ s : State, s.busy = true → (opcField s.pcmd).toNat = opc → (rsv0Field s.pcmd ≠ 0#8 ∨ rsv1Field s.pcmd ≠ 0#32) →
      s.coreTurn = .next (failed s .illegal)

/-- The lane a command names (30_encoding.md R71). -/
def laneOf : Instr → Option Nat
  | .mulmod1 => .none
  | .mulmod2 => .none
  | .stepz l => some l
  | .stepw l => some l
  | .inittab => .none
  | .treadz => .none
  | .treadw => .none
  | .seed l => some l
  | .next l => some l
  | .ldstate l => some l
  | .rdstate l => some l

/-- The commands that raise NOTABLES (60_exceptions.md R201). -/
def readsTables : Instr → Bool
  | .treadz | .treadw | .seed _ => true
  | _ => false

/-- The commands that raise NOSTATE (60_exceptions.md R201). -/
def readsContext : Instr → Bool
  | .stepz _ | .stepw _ | .next _ | .rdstate _ => true
  | _ => false

/-- The operand checks of a command and the codes they raise (60_exceptions.md R201, rows 5 to 9). -/
def operandChecks (i : Instr) (s : State) : List (Bool × ErrCode) :=
  let a := s.opa.toNat
  let b := s.opb.toNat
  match i with
  | .mulmod1 => [(decide (2 ^ 53 ≤ a ∨ 2 ^ 53 ≤ b), .operand)]
  | .mulmod2 => [(decide (2 ^ 32 ≤ a ∨ 2 ^ 32 ≤ b), .operand)]
  | .seed _ => [(decide (2 ^ 55 ≤ a ∨ 2 ^ 55 ≤ b), .range)]
  | .ldstate _ => [(decide (Config.M1 ≤ a ∨ Config.M2 ≤ b), .badstate), (decide (a = 0 ∨ b = 0), .zero)]
  | .treadz | .treadw => [(decide (10 < a ∨ 31 < b), .tindex)]
  | _ => []

/-- The conditions of 60_exceptions.md R201 for a decoded command, in the order of R202. -/
def checks (i : Instr) (s : State) : List (Bool × ErrCode) :=
  [((laneOf i).any fun l => decide (s.params.LANES ≤ l), .lane),
   (readsTables i && !s.TV, .notables),
   (readsContext i && (laneOf i).any fun l => !s.V l, .nostate)] ++ operandChecks i s

/-- The code a pending word completes with: ILLEGAL, else that of the first condition that holds, else success
(60_exceptions.md R202). -/
def codeOf (s : State) : ErrCode :=
  match decode s.pcmd with
  | .error _ => .illegal
  | .ok i => ((checks i s).find? Prod.fst).elim .none Prod.snd

/-- n commands i, one after the other. -/
def repeatExec (i : Instr) : Nat → State → Host.Outcome State Fault Refusal
  | 0, s => .next s
  | n + 1, s =>
    match repeatExec i n s with
    | .next t => exec i t
    | .fault f => .fault f
    | .refused r => .refused r

/-- n steps of the machine. -/
def runSteps : Nat → State → Host.Outcome State Fault Refusal
  | 0, s => .next s
  | n + 1, s =>
    match step s with
    | .next t => runSteps n t
    | .fault f => .fault f
    | .refused r => .refused r

end Sys2Proof.Statements

open Sys2Proof.Statements

/-! ### Decoding and encoding -/

/-- Decode of the word of a well-formed command is that command, as a word and as its bytes (30_encoding.md R70, R71, R77). -/
def Obligations.DecodeInvertsEncode : Prop :=
  ∀ i : Instr, i.wf = true → decode (encode i) = .ok i ∧ decodeBytes (bytesOfWord (encode i)) = .ok i

/-- A word that decodes is the word of the command it decodes to: no two words mean the same command (30_encoding.md R77). -/
def Obligations.EncodeInvertsDecode : Prop :=
  ∀ (w : Word) (i : Instr), decode w = .ok i → i.wf = true ∧ encode i = w

/-- Decode is the function of 30_encoding.md R77, total on every 64-bit word. -/
def Obligations.DecodeFollowsItsRule : Prop :=
  ∀ w : Word,
    let opc := w.toNat % 2 ^ 8
    let rsv0 := w.toNat / 2 ^ 8 % 2 ^ 8
    let lane := w.toNat / 2 ^ 16 % 2 ^ 16
    let rsv1 := w.toNat / 2 ^ 32
    if rsv1 ≠ 0 ∨ rsv0 ≠ 0 ∨ opc = 0x00 ∨ 0x0C ≤ opc ∨
        ((opc = 0x01 ∨ opc = 0x02 ∨ opc = 0x05 ∨ opc = 0x06 ∨ opc = 0x07) ∧ lane ≠ 0) then
      ∃ e, decode w = .error e
    else
      ∃ i, [Instr.mulmod1, .mulmod2, .stepz lane, .stepw lane, .inittab, .treadz, .treadw, .seed lane, .next lane, .ldstate lane,
        .rdstate lane][opc - 1]? = some i ∧ decode w = .ok i

/-- The decoder reads written-out words right: the words of 95_test_vectors.md V-24 and of the opcode table. -/
def Obligations.WrittenWordsDecode : Prop :=
  decode 0x0000000000000000#64 = .error .unassignedOpcode ∧
  decode 0x0000000000000001#64 = .ok .mulmod1 ∧
  decode 0x0000000000010001#64 = .error .laneOnLanelessCommand ∧
  decode 0x0000000000030008#64 = .ok (.seed 3) ∧
  decode 0x00000000FFFF0009#64 = .ok (.next 65535) ∧
  decode 0x0000000000000109#64 = .error .reservedBits ∧
  decode 0x8000000000000008#64 = .error .reservedBits ∧
  decode 0x000000000002000A#64 = .ok (.ldstate 2) ∧
  decode 0x000000000000000B#64 = .ok (.rdstate 0) ∧
  decode 0x000000000000000C#64 = .error .unassignedOpcode

/-- A reserved bit, a lane on a command without one, or an unassigned operation code: the pending word completes with ILLEGAL and
has no other effect (30_encoding.md R73, R74, R75). -/
def Obligations.IllegalWordsOnlyReport : Prop :=
  ∀ (s : State) (rest : List Event), coreNext s rest → s.busy = true →
    (rsv0Field s.pcmd ≠ 0#8 ∨ rsv1Field s.pcmd ≠ 0#32 → step s = .next (failed { s with events := rest } .illegal)) ∧
    ((opcField s.pcmd).toNat ∈ [0x01, 0x02, 0x05, 0x06, 0x07] → laneField s.pcmd ≠ 0#16 →
      step s = .next (failed { s with events := rest } .illegal)) ∧
    ((opcField s.pcmd).toNat = 0x00 ∨ 0x0C ≤ (opcField s.pcmd).toNat → step s = .next (failed { s with events := rest } .illegal))

/-! ### The step -/

/-- A step runs the decoded command: with BUSY = 1 and the core agent's turn next, the step is exec of the pending command
(20_memory.md R59). -/
def Obligations.StepRunsThePendingCommand : Prop :=
  ∀ (s : State) (rest : List Event) (i : Instr), coreNext s rest → s.busy = true → decode s.pcmd = .ok i →
    step s = exec i { s with events := rest }

/-- With BUSY = 0 the core agent's step is not enabled: its turn changes nothing (20_memory.md R59). -/
def Obligations.CoreTurnNeedsBusy : Prop :=
  ∀ (s : State) (rest : List Event), coreNext s rest → s.busy = false → step s = .next { s with events := rest }

/-- The reset values of 70_reset_and_hazards.md R231, at reset of any block: the fields, and what the host reads of CMD, STATUS and CFG.
PCMD has no value in the rule (log 4) and none is claimed. -/
def Obligations.ResetValuesHold : Prop :=
  ∀ p : Params,
    let s := State.atReset p
    s.opa = 0#64 ∧ s.opb = 0#64 ∧ s.res0 = 0#64 ∧ s.res1 = 0#64 ∧
    s.busy = false ∧ s.TV = false ∧ s.sticky = false ∧ s.err.code = 0#4 ∧
    (∀ l, s.V l = false ∧ s.lane l = .none) ∧ s.tables = .none ∧
    s.readReg .cmd = .next (s.answer 0#64) ∧
    s.readReg .status = .next (s.answer 0#64) ∧
    s.readReg .cfg = .next (s.answer (BitVec.ofNat 64 p.LANES)) ∧
    State.reset = State.atReset State.reset.params

/-- The reset input abandons a pending command and leaves none of its effects (70_reset_and_hazards.md R239). -/
def Obligations.ResetInputAbandonsTheCommand : Prop :=
  ∀ (s : State) (rest : List Event), s.events = .reset :: rest →
    ∃ t, step s = .next t ∧ t.events = rest ∧ t.params = s.params ∧ t.returned = s.returned ∧
      t.res0 = 0#64 ∧ t.res1 = 0#64 ∧ t.opa = 0#64 ∧ t.opb = 0#64 ∧ (∀ l, t.V l = false) ∧ t.TV = false ∧
      t.busy = false ∧ t.readReg .status = .next (t.answer 0#64)

/-- Every step keeps the invariant: canonical lane contexts, all below LANES, each in range and not 0, tables that hold their powers, and
STICKY set while ERR is not 0 (10_state.md R24, R25, R33). -/
def Obligations.StepKeepsTheInvariant : Prop :=
  ∀ s t : State, s.Inv → step s = .next t → t.Inv

/-- The invariant holds at reset of any block. -/
def Obligations.ResetMeetsTheInvariant : Prop :=
  (∀ p : Params, (State.atReset p).Inv) ∧ State.reset.Inv

/-- A step never refuses, and it faults exactly when the host makes an error: an access that is not accepted or that breaks the BUSY
protocol (20_memory.md R52, 70_reset_and_hazards.md R234, R235, 60_exceptions.md R209). -/
def Obligations.StepFaultsOnHostErrorsOnly : Prop :=
  ∀ s : State, (∀ r, step s ≠ .refused r) ∧ (s.safe ↔ s.hostInOrder) ∧ ((∃ f, step s = .fault f) ↔ ¬ s.hostInOrder)

/-- No step changes LANES or BASE (10_state.md R35). -/
def Obligations.StepKeepsTheParameters : Prop :=
  ∀ s t : State, step s = .next t → t.params = s.params

/-- Only the reset input clears TV, V[l] or STICKY (10_state.md R23, R26, 60_exceptions.md R203). -/
def Obligations.OnlyResetClearsValidBits : Prop :=
  ∀ s t : State, (∀ rest, s.events ≠ .reset :: rest) → step s = .next t →
    (s.TV = true → t.TV = true) ∧ (∀ l, s.V l = true → t.V l = true) ∧ (s.sticky = true → t.sticky = true)

/-! ### The commands, one by one -/

/-- MULMOD1 (40_wide_modmul.md R103). -/
def Obligations.Mulmod1FollowsItsRule : Prop :=
  hasOneWord 0x0000000000000001#64 .mulmod1 ∧
  ∀ s : State,
    (s.opa.toNat < 2 ^ 53 ∧ s.opb.toNat < 2 ^ 53 →
      exec .mulmod1 s =
        .next { s with res0 := BitVec.ofNat 64 (s.opa.toNat * s.opb.toNat % Config.M1), err := .none, busy := false }) ∧
    (2 ^ 53 ≤ s.opa.toNat ∨ 2 ^ 53 ≤ s.opb.toNat → exec .mulmod1 s = .next (failed s .operand))

/-- MULMOD2 (40_wide_modmul.md R104). -/
def Obligations.Mulmod2FollowsItsRule : Prop :=
  hasOneWord 0x0000000000000002#64 .mulmod2 ∧
  ∀ s : State,
    (s.opa.toNat < 2 ^ 32 ∧ s.opb.toNat < 2 ^ 32 →
      exec .mulmod2 s =
        .next { s with res0 := BitVec.ofNat 64 (s.opa.toNat * s.opb.toNat % Config.M2), err := .none, busy := false }) ∧
    (2 ^ 32 ≤ s.opa.toNat ∨ 2 ^ 32 ≤ s.opb.toNat → exec .mulmod2 s = .next (failed s .operand))

/-- STEPZ (41_generators.md R123, its pseudocode, flags and errors). -/
def Obligations.StepzAdvancesZ : Prop :=
  hasLaneWords 0x03 .stepz ∧
  ∀ (s : State) (l : Nat),
    (∀ c, l < s.params.LANES → s.lane l = some c →
      ∃ t, exec (.stepz l) s = .next t ∧
        laneWritten s t l { z := BitVec.ofNat 53 (Config.A1 * c.z.toNat % Config.M1), w := c.w } ∧
        t = { s with
          lanes := t.lanes, res0 := BitVec.ofNat 64 (Config.A1 * c.z.toNat % Config.M1), err := .none, busy := false }) ∧
    (s.params.LANES ≤ l → exec (.stepz l) s = .next (failed s .lane)) ∧
    (l < s.params.LANES → s.V l = false → exec (.stepz l) s = .next (failed s .nostate))

/-- STEPW (41_generators.md R124, its pseudocode, flags and errors). -/
def Obligations.StepwAdvancesW : Prop :=
  hasLaneWords 0x04 .stepw ∧
  ∀ (s : State) (l : Nat),
    (∀ c, l < s.params.LANES → s.lane l = some c →
      ∃ t, exec (.stepw l) s = .next t ∧
        laneWritten s t l { z := c.z, w := BitVec.ofNat 32 (Config.A2 * c.w.toNat % Config.M2) } ∧
        t = { s with
          lanes := t.lanes, res0 := BitVec.ofNat 64 (Config.A2 * c.w.toNat % Config.M2), err := .none, busy := false }) ∧
    (s.params.LANES ≤ l → exec (.stepw l) s = .next (failed s .lane)) ∧
    (l < s.params.LANES → s.V l = false → exec (.stepw l) s = .next (failed s .nostate))

/-- INITTAB (42_jump_ahead.md R149). -/
def Obligations.InittabFollowsItsRule : Prop :=
  hasOneWord 0x0000000000000005#64 .inittab ∧
  (∀ s : State, ∃ t T, exec .inittab s = .next t ∧ T.right ∧
    t = { s with tables := some T, err := .none, busy := false } ∧ t.TV = true ∧ (∀ l, t.V l = s.V l)) ∧
  (∀ (s : State) (T : Tables), s.tables = some T → T.right → exec .inittab s = .next { s with err := .none, busy := false }) ∧
  (∀ p : Params, ∃ t, exec .inittab (State.atReset p) = .next t ∧ t.readReg .status = .next (t.answer 0x2#64))

/-- TREADZ (42_jump_ahead.md R150, its pseudocode, flags and errors). -/
def Obligations.TreadzReadsTheCell : Prop :=
  hasOneWord 0x0000000000000006#64 .treadz ∧
  ∀ s : State,
    (∀ (T : Tables) (i : Fin 11) (j : Fin 32), s.tables = some T → s.opa.toNat = i.val → s.opb.toNat = j.val →
      exec .treadz s = .next { s with res0 := BitVec.ofNat 64 (T.tz[i][j]).toNat, err := .none, busy := false }) ∧
    (s.TV = false → exec .treadz s = .next (failed s .notables)) ∧
    (s.TV = true → 10 < s.opa.toNat ∨ 31 < s.opb.toNat → exec .treadz s = .next (failed s .tindex))

/-- TREADW (42_jump_ahead.md R151, its pseudocode, flags and errors). -/
def Obligations.TreadwReadsTheCell : Prop :=
  hasOneWord 0x0000000000000007#64 .treadw ∧
  ∀ s : State,
    (∀ (T : Tables) (i : Fin 11) (j : Fin 32), s.tables = some T → s.opa.toNat = i.val → s.opb.toNat = j.val →
      exec .treadw s = .next { s with res0 := BitVec.ofNat 64 (T.tw[i][j]).toNat, err := .none, busy := false }) ∧
    (s.TV = false → exec .treadw s = .next (failed s .notables)) ∧
    (s.TV = true → 10 < s.opa.toNat ∨ 31 < s.opb.toNat → exec .treadw s = .next (failed s .tindex))

/-- SEED (42_jump_ahead.md R152, its pseudocode, flags and errors). -/
def Obligations.SeedJumpsBothGenerators : Prop :=
  hasLaneWords 0x08 .seed ∧
  ∀ (s : State) (l : Nat),
    (∀ T, l < s.params.LANES → s.tables = some T → s.opa.toNat < 2 ^ 55 → s.opb.toNat < 2 ^ 55 →
      ∃ t, exec (.seed l) s = .next t ∧
        laneWritten s t l { z := BitVec.ofNat 53 (jumpZ T s.opa.toNat), w := BitVec.ofNat 32 (jumpW T s.opb.toNat) } ∧
        t = { s with
          lanes := t.lanes, res0 := BitVec.ofNat 64 (jumpZ T s.opa.toNat), res1 := BitVec.ofNat 64 (jumpW T s.opb.toNat),
          err := .none, busy := false }) ∧
    (s.params.LANES ≤ l → exec (.seed l) s = .next (failed s .lane)) ∧
    (l < s.params.LANES → s.TV = false → exec (.seed l) s = .next (failed s .notables)) ∧
    (l < s.params.LANES → s.TV = true → 2 ^ 55 ≤ s.opa.toNat ∨ 2 ^ 55 ≤ s.opb.toNat →
      exec (.seed l) s = .next (failed s .range))

/-- NEXT (43_combined_stream.md R171, its pseudocode, flags and errors). -/
def Obligations.NextAdvancesBothGenerators : Prop :=
  hasLaneWords 0x09 .next ∧
  ∀ (s : State) (l : Nat),
    (∀ c, l < s.params.LANES → s.lane l = some c →
      ∃ t, exec (.next l) s = .next t ∧
        laneWritten s t l
          { z := BitVec.ofNat 53 (Config.A1 * c.z.toNat % Config.M1), w := BitVec.ofNat 32 (Config.A2 * c.w.toNat % Config.M2) } ∧
        (t.res0.toNat : Int) =
          (((Config.A2 * c.w.toNat % Config.M2 : Nat) : Int) - ((Config.A1 * c.z.toNat % Config.M1 : Nat) : Int)) % 2 ^ 31 ∧
        t = { s with lanes := t.lanes, res0 := t.res0, err := .none, busy := false }) ∧
    (s.params.LANES ≤ l → exec (.next l) s = .next (failed s .lane)) ∧
    (l < s.params.LANES → s.V l = false → exec (.next l) s = .next (failed s .nostate))

/-- LDSTATE (44_state_access.md R180, its pseudocode, flags and errors). -/
def Obligations.LdstateLoadsTheContext : Prop :=
  hasLaneWords 0x0A .ldstate ∧
  ∀ (s : State) (l : Nat),
    (l < s.params.LANES → 0 < s.opa.toNat → s.opa.toNat < Config.M1 → 0 < s.opb.toNat → s.opb.toNat < Config.M2 →
      ∃ t c, exec (.ldstate l) s = .next t ∧ laneWritten s t l c ∧ c.z.toNat = s.opa.toNat ∧ c.w.toNat = s.opb.toNat ∧
        t = { s with lanes := t.lanes, err := .none, busy := false }) ∧
    (s.params.LANES ≤ l → exec (.ldstate l) s = .next (failed s .lane)) ∧
    (l < s.params.LANES → Config.M1 ≤ s.opa.toNat ∨ Config.M2 ≤ s.opb.toNat →
      exec (.ldstate l) s = .next (failed s .badstate)) ∧
    (l < s.params.LANES → s.opa.toNat < Config.M1 → s.opb.toNat < Config.M2 → s.opa.toNat = 0 ∨ s.opb.toNat = 0 →
      exec (.ldstate l) s = .next (failed s .zero))

/-- RDSTATE (44_state_access.md R181, its pseudocode, flags and errors). -/
def Obligations.RdstateReadsTheContext : Prop :=
  hasLaneWords 0x0B .rdstate ∧
  ∀ (s : State) (l : Nat),
    (∀ c, l < s.params.LANES → s.lane l = some c →
      exec (.rdstate l) s = .next { s with
        res0 := BitVec.ofNat 64 c.z.toNat, res1 := BitVec.ofNat 64 c.w.toNat, err := .none, busy := false }) ∧
    (s.params.LANES ≤ l → exec (.rdstate l) s = .next (failed s .lane)) ∧
    (l < s.params.LANES → s.V l = false → exec (.rdstate l) s = .next (failed s .nostate))

/-! ### All commands together -/

/-- Every pending word completes, and its completion records its code as 60_exceptions.md R203 says: ERR is the code, STICKY remembers a
non-zero one, BUSY becomes 0. Only INITTAB sets TV, no other command changes it, and only reset clears STICKY. -/
def Obligations.CompletionRecordsTheCode : Prop :=
  (∀ (s : State) (rest : List Event), coreNext s rest → s.busy = true →
    ∃ t, step s = .next t ∧ t.err = codeOf s ∧ t.sticky = (s.sticky || decide (codeOf s ≠ .none)) ∧ t.busy = false ∧
      (decode s.pcmd ≠ .ok .inittab → t.TV = s.TV)) ∧
  (∀ s t : State, step s = .next t → s.TV = false → t.TV = true →
    s.busy = true ∧ decode s.pcmd = .ok .inittab ∧ ∃ rest, coreNext s rest) ∧
  (∀ s t : State, step s = .next t → s.sticky = true → t.sticky = false → ∃ rest, s.events = .reset :: rest)

/-- A pending word that completes with a non-zero code writes nothing but ERR, STICKY and BUSY (60_exceptions.md R204). -/
def Obligations.FailingCommandWritesOnlyStatus : Prop :=
  ∀ s t : State, s.busy = true → s.coreTurn = .next t → t.err ≠ .none → t = failed s t.err

/-- The code is that of the first condition that holds, in the order of 60_exceptions.md R202, with the causes of R201. -/
def Obligations.FirstFailingCheckGivesTheCode : Prop :=
  ∀ s : State, s.busy = true → ∃ t, s.coreTurn = .next t ∧ t.err = codeOf s

/-- A command reads and writes no lane context but its own, a command without a lane none at all (10_state.md R36). -/
def Obligations.CommandTouchesOnlyItsLane : Prop :=
  ∀ (i : Instr) (s s' t t' : State), exec i s = .next t → exec i s' = .next t' →
    (∀ k, laneOf i ≠ some k → t.lane k = s.lane k) ∧
    (s' = { s with lanes := s'.lanes } → (∀ l, laneOf i = some l → s'.lane l = s.lane l) →
      t' = { t with lanes := t'.lanes } ∧ ∀ l, laneOf i = some l → t'.lane l = t.lane l)

/-- A command that ignores OPA and OPB does the same whatever they hold (30_encoding.md R76, "ignored"). -/
def Obligations.IgnoredOperandsHaveNoEffect : Prop :=
  ∀ (i : Instr) (s t : State) (a b : Word), i = .inittab ∨ (∃ l, i = .stepz l ∨ i = .stepw l ∨ i = .next l ∨ i = .rdstate l) →
    exec i s = .next t → exec i { s with opa := a, opb := b } = .next { t with opa := a, opb := b }

/-- After an error a command proceeds exactly as after a success: what stands in ERR and STICKY before it has no part in it, and STICKY is
only remembered (60_exceptions.md R206). -/
def Obligations.EarlierErrorsHaveNoEffect : Prop :=
  ∀ (i : Instr) (s t : State) (e : ErrCode) (k : Bool), exec i s = .next t →
    exec i { s with err := e, sticky := k } = .next { t with sticky := k || decide (t.err ≠ .none) }

/-- No command writes OPA, OPB, PCMD, the parameters or the outside's record (10_state.md R28, R35). -/
def Obligations.CommandsNeverWriteOperands : Prop :=
  ∀ (i : Instr) (s t : State), exec i s = .next t →
    t.opa = s.opa ∧ t.opb = s.opb ∧ t.pcmd = s.pcmd ∧ t.params = s.params ∧ t.events = s.events ∧ t.returned = s.returned ∧
      t.draws = s.draws

/-! ### The register window -/

/-- The block accepts 8-byte accesses at BASE + 8n, n = 0..7, and refuses every other with a bus error (20_memory.md R52). -/
def Obligations.OnlyAlignedEightByteAccesses : Prop :=
  ∀ (s : State) (a : Access) (rest : List Event), s.events = .host a :: rest → (step s = .fault .busError ↔ ¬ s.accepts a)

/-- OPA and OPB read back the value last written, all 64 bits (10_state.md R28). -/
def Obligations.OperandRegistersReadBack : Prop :=
  ∀ (s : State) (v : Word) (rest : List Event), s.busy = false →
    (s.events = .host (.write (s.params.BASE + 0x00) (bytesOfWord v)) :: .host (.read (s.params.BASE + 0x00) 8) :: rest →
      ∃ t, step s = .next t ∧
        step t = .next { s with opa := v, events := rest, returned := bytesOfWord v :: s.returned }) ∧
    (s.events = .host (.write (s.params.BASE + 0x08) (bytesOfWord v)) :: .host (.read (s.params.BASE + 0x08) 8) :: rest →
      ∃ t, step s = .next t ∧
        step t = .next { s with opb := v, events := rest, returned := bytesOfWord v :: s.returned })

/-- With BUSY = 0 a read at BASE + 8n answers the register of 20_memory.md R51: OPA, OPB, 0 for CMD, STATUS as 10_state.md R33 lays it
out, RES0, RES1, LANES for CFG, 0 for the reserved offset. -/
def Obligations.IdleReadAnswersTheMappedRegister : Prop :=
  ∀ (s : State) (n : Nat) (v : Word) (rest : List Event), s.busy = false →
    s.events = .host (.read (s.params.BASE + 8 * n) 8) :: rest →
    [s.opa, s.opb, 0#64, BitVec.ofNat 64 (s.TV.toNat * 2 + s.sticky.toNat * 4 + s.err.code.toNat * 16), s.res0, s.res1,
      BitVec.ofNat 64 s.params.LANES, 0#64][n]? = some v →
    step s = .next { s with events := rest, returned := bytesOfWord v :: s.returned }

/-- A write to STATUS, RES0, RES1, CFG or the reserved offset is ignored, whatever BUSY is, and the reserved offset reads 0
(20_memory.md R54, R55). -/
def Obligations.ReadOnlyRegistersIgnoreWrites : Prop :=
  (∀ (s : State) (off : Nat) (data : List Byte) (rest : List Event), off ∈ [0x18, 0x20, 0x28, 0x30, 0x38] → data.length = 8 →
    s.events = .host (.write (s.params.BASE + off) data) :: rest → step s = .next { s with events := rest }) ∧
  (∀ (s : State) (rest : List Event), s.events = .host (.read (s.params.BASE + 0x38) 8) :: rest →
    step s = .next { s with events := rest, returned := bytesOfWord 0#64 :: s.returned })

/-- A read changes nothing of the block, and a second read answers the same, whatever BUSY is (20_memory.md R57). Only of STATUS while BUSY
= 1 the second clause does not speak, since its free bits are drawn on each read (log 7). -/
def Obligations.ReadsHaveNoSideEffects : Prop :=
  (∀ (s t : State) (addr size : Nat) (rest : List Event), s.events = .host (.read addr size) :: rest → step s = .next t →
    ∃ x, t = { s with events := rest, returned := x :: s.returned, draws := t.draws }) ∧
  (∀ (s t : State) (addr size : Nat) (rest : List Event), s.busy = false ∨ addr ≠ s.params.BASE + 0x18 →
    s.events = .host (.read addr size) :: .host (.read addr size) :: rest → step s = .next t →
    ∃ u x, step t = .next u ∧ u.returned = x :: x :: s.returned)

/-- A write to CMD while BUSY = 0 latches the word, whatever it is, and makes the block busy; a read of CMD answers 0
(10_state.md R27, R32). -/
def Obligations.CommandWriteLatchesTheWord : Prop :=
  (∀ (s : State) (v : Word) (rest : List Event), s.busy = false →
    s.events = .host (.write (s.params.BASE + 0x10) (bytesOfWord v)) :: rest →
    step s = .next { s with events := rest, pcmd := v, busy := true }) ∧
  (∀ (s : State) (rest : List Event), s.events = .host (.read (s.params.BASE + 0x10) 8) :: rest →
    step s = .next { s with events := rest, returned := bytesOfWord 0#64 :: s.returned })

/-- While BUSY = 1 a write to OPA, OPB or CMD, and a read of RES0 or RES1, is a fault of the host program
(70_reset_and_hazards.md R234, R235). -/
def Obligations.BusyProtocolViolationsFault : Prop :=
  ∀ (s : State) (rest : List Event), s.busy = true →
    (∀ off data, off ∈ [0x00, 0x08, 0x10] → data.length = 8 → s.events = .host (.write (s.params.BASE + off) data) :: rest →
      step s = .fault .writeWhileBusy) ∧
    (∀ off, off ∈ [0x20, 0x28] → s.events = .host (.read (s.params.BASE + off) 8) :: rest →
      step s = .fault .resultReadWhileBusy)

/-- While BUSY = 1 the other accesses are harmless: nothing of the block changes, the pending command included, and a read answers the
register's value as with BUSY = 0: OPA and OPB the value last written, CMD 0, CFG LANES, the reserved offset 0
(70_reset_and_hazards.md R233, 10_state.md R28). What STATUS answers then is StatusReadShowsBusy's. -/
def Obligations.OtherAccessesWhileBusyAreHarmless : Prop :=
  ∀ (s : State) (a : Access) (rest : List Event), s.busy = true → s.events = .host a :: rest → s.accepts a →
    ¬ s.breaksBusyProtocol a →
    ∃ t, step s = .next t ∧ t = { s with events := rest, returned := t.returned, draws := t.draws } ∧
      (∀ n v, (n, v) ∈ [(0, s.opa), (1, s.opb), (2, 0#64), (6, BitVec.ofNat 64 s.params.LANES), (7, 0#64)] →
        a = .read (s.params.BASE + 8 * n) 8 → t = { s with events := rest, returned := bytesOfWord v :: s.returned }) ∧
      (∀ addr data, a = .write addr data → t = { s with events := rest })

/-- A STATUS read while BUSY = 1 answers a word whose bit 0 is 1, and its other bits are a free value drawn for that read; a STATUS read
with BUSY = 0 answers every field (70_reset_and_hazards.md R236, 10_state.md R33). -/
def Obligations.StatusReadShowsBusy : Prop :=
  ∀ (s : State) (rest : List Event), s.events = .host (.read (s.params.BASE + 0x18) 8) :: rest →
    ∃ t v, step s = .next t ∧ t.returned = bytesOfWord v :: s.returned ∧
      (s.busy = true → v.toNat % 2 = 1 ∧ v.toNat / 2 = (Config.busyStatusBits s.draws).toNat ∧ t.draws = s.draws + 1) ∧
      (s.busy = false → v.getLsbD 0 = false ∧ v.getLsbD 1 = s.TV ∧ v.getLsbD 2 = s.sticky ∧ v.getLsbD 3 = false ∧
        v.toNat / 2 ^ 4 = s.err.code.toNat)

/-- CFG is LANES in bits 16:0, from 1 to 65536, and 0 above; a write to it is ignored (10_state.md R34). -/
def Obligations.ConfigurationRegisterIsLanes : Prop :=
  (∀ (s : State) (rest : List Event), s.events = .host (.read (s.params.BASE + 0x30) 8) :: rest →
    ∃ v : Word, step s = .next { s with events := rest, returned := bytesOfWord v :: s.returned } ∧
      v.toNat % 2 ^ 17 = s.params.LANES ∧ v.toNat / 2 ^ 17 = 0 ∧ 1 ≤ s.params.LANES ∧ s.params.LANES ≤ 65536) ∧
  (∀ (s : State) (data : List Byte) (rest : List Event), data.length = 8 →
    s.events = .host (.write (s.params.BASE + 0x30) data) :: rest → step s = .next { s with events := rest })

/-- Byte b of an access holds bits [8b+7:8b], for a read and for a write (20_memory.md R53). -/
def Obligations.BytesAreLittleEndian : Prop :=
  (∀ v : Word, (bytesOfWord v).length = 8 ∧ ∀ b < 8, (bytesOfWord v)[b]? = some (BitVec.ofNat 8 (v.toNat / 2 ^ (8 * b)))) ∧
  (∀ v : Word, wordOfBytes (bytesOfWord v) = v) ∧
  (∀ bs : List Byte, bs.length = 8 → bytesOfWord (wordOfBytes bs) = bs)

/-- A host program's call completes after every delay of the core agent: operands written, command written, n polls that read BUSY = 1, the
core agent's step, and a poll that reads STATUS as the command left it. The end state is that of the command, whatever n is
(30_encoding.md R81, 70_reset_and_hazards.md R233, R236, R237). -/
def Obligations.CallCompletesAfterEveryDelay : Prop :=
  ∀ (s : State) (i : Instr) (a b : Word) (n : Nat) (rest : List Event), i.wf = true → s.busy = false →
    s.events = s.params.call i a b n ++ rest →
    ∃ u t, exec i { s with opa := a, opb := b, pcmd := encode i, busy := true, events := rest } = .next u ∧
      runSteps (n + 5) s = .next t ∧ t = { u with returned := t.returned, draws := s.draws + n } ∧
      t.returned.length = s.returned.length + n + 1 ∧ t.returned.head? = some (bytesOfWord u.idleStatus)

/-! ### The arithmetic -/

/-- The laws of the multiplier (40_wide_modmul.md R105). -/
def Obligations.MultiplierLaws : Prop :=
  (∀ x y, mulMod1 x y = mulMod1 y x ∧ mulMod2 x y = mulMod2 y x) ∧
  (∀ x, mulMod1 x 1 = x % Config.M1 ∧ mulMod2 x 1 = x % Config.M2) ∧
  (∀ x y z, mulMod1 (mulMod1 x y) z = mulMod1 x (mulMod1 y z) ∧ mulMod2 (mulMod2 x y) z = mulMod2 x (mulMod2 y z)) ∧
  (∀ x y, mulMod1 x y < Config.M1 ∧ mulMod2 x y < Config.M2)

/-- Schrage's method gives exactly StepZ, both of its terms staying below 2^53 (41_generators.md R121). -/
def Obligations.SchrageGivesStepZ : Prop :=
  Config.schQ = 165672915 ∧ Config.schR = 5946243 ∧ Config.schR < Config.schQ ∧
  ∀ z < Config.M1, schrageStepZ z = (stepZ z : Int) ∧
    z % Config.schQ * Config.A1 < 2 ^ 53 ∧ z / Config.schQ * Config.schR < 2 ^ 53

/-- A step is 0 only from 0 (41_generators.md R127). -/
def Obligations.StepsKeepNonzero : Prop :=
  (∀ z < Config.M1, stepZ z = 0 ↔ z = 0) ∧ (∀ w < Config.M2, stepW w = 0 ↔ w = 0)

/-- The tables that INITTAB fills by the construction recurrence hold the powers of 42_jump_ahead.md R141 and R142. -/
def Obligations.BuiltTablesHoldThePowers : Prop :=
  (∀ (i : Fin 11) (j : Fin 32), builtTables.tzCell i j = Config.A1 ^ (j.val * 32 ^ i.val) % Config.M1) ∧
  (∀ (i : Fin 11) (j : Fin 32), builtTables.twCell i j = Config.A2 ^ (j.val * 32 ^ i.val) % Config.M2) ∧
  builtTables.tzCell 0 1 = 33554432 ∧ builtTables.twCell 0 1 = 39373 ∧
  ∀ i : Fin 11, builtTables.tzCell i 0 = 1 ∧ builtTables.twCell i 0 = 1

/-- The eleven digits rebuild the index, and each is the bit field the rule names (42_jump_ahead.md R140). -/
def Obligations.DigitsRebuildTheIndex : Prop :=
  ∀ k < 2 ^ 55, k = ∑ i ∈ Finset.range 11, (digit k i).val * 32 ^ i ∧
    ∀ i < 11, ∀ b < 5, (digit k i).val.testBit b = k.testBit (5 * i + b)

/-- The two jumps are the products of the literal algorithm: for Z the seed bit, row i-1 for digit i and the closing HZ; for W row i for
digit i and the closing A2 (42_jump_ahead.md R143, R144). -/
def Obligations.JumpsAreTheLiteralProducts : Prop :=
  ∀ (T : Tables) (k : Nat),
    jumpZ T k =
      2 ^ (digit k 0).val * (∏ i : Fin 10, T.tzCell i.castSucc (digit k (i.val + 1))) * Config.HZ % Config.M1 ∧
    jumpW T k = (∏ i : Fin 11, T.twCell i (digit k i.val)) * Config.A2 % Config.M2

/-- The closed forms of the two jumps (42_jump_ahead.md R145). -/
def Obligations.JumpsHaveTheClosedForms : Prop :=
  ∀ (T : Tables) (k : Nat), T.right → k < 2 ^ 55 →
    jumpZ T k = 2 ^ (k % 32) * Config.A1 ^ (k / 32) * Config.HZ % Config.M1 ∧
    jumpZ T k = 2 ^ (k % 32 + 25 * (k / 32)) * Config.HZ % Config.M1 ∧
    jumpW T k = Config.A2 ^ (k + 1) % Config.M2

/-- How the jumps relate to the steps: 32 index units are one step of Z, one unit is one step of W (42_jump_ahead.md R146, its bullets on
JumpZ and JumpW). -/
def Obligations.JumpsAdvanceWithTheSteps : Prop :=
  ∀ T : Tables, T.right →
    (∀ k, k + 32 < 2 ^ 55 → jumpZ T (k + 32) = stepZ (jumpZ T k)) ∧
    (∀ k, k + 1 < 2 ^ 55 → jumpW T (k + 1) = stepW (jumpW T k)) ∧
    (∀ k < 2 ^ 55, jumpW T k = stepW^[k + 1] 1) ∧
    jumpZ T 0 = Config.HZ ∧ jumpZ T 1 = Config.M1 - 1 ∧ jumpZ T 2 = Config.M1 - 2

/-- After SEED with (k, k1) and n NEXT commands on the lane, Z is JumpZ(k + 32n) while that index is below 2^55, and W is
A2^(k1 + 1 + n) mod M2 (42_jump_ahead.md R146, its last bullet). -/
def Obligations.SeedThenNextsFollowTheStream : Prop :=
  ∀ (s : State) (T : Tables) (l n : Nat), l < s.params.LANES → s.tables = some T → T.right →
    s.opa.toNat < 2 ^ 55 → s.opb.toNat < 2 ^ 55 →
    ∃ s0 t c, exec (.seed l) s = .next s0 ∧ repeatExec (.next l) n s0 = .next t ∧ t.lane l = some c ∧
      (s.opa.toNat + 32 * n < 2 ^ 55 → c.z.toNat = jumpZ T (s.opa.toNat + 32 * n)) ∧
      c.z.toNat = 2 ^ (s.opa.toNat % 32) * Config.A1 ^ (s.opa.toNat / 32 + n) * Config.HZ % Config.M1 ∧
      c.w.toNat = Config.A2 ^ (s.opb.toNat + 1 + n) % Config.M2 ∧
      (0 < n → t.res0.toNat = combine c.w.toNat c.z.toNat)

/-- Jump-ahead yields units, so never 0 (42_jump_ahead.md R147). -/
def Obligations.JumpsAreUnits : Prop :=
  Nat.Coprime 2 3 ∧ Nat.Coprime Config.A1 3 ∧ Config.HZ % 3 = 1 ∧ Nat.Coprime Config.A2 Config.M2 ∧
  ∀ (T : Tables) (k : Nat), T.right → k < 2 ^ 55 →
    Nat.Coprime (jumpZ T k) 3 ∧ jumpZ T k ≠ 0 ∧ Nat.Coprime (jumpW T k) Config.M2 ∧ jumpW T k ≠ 0

/-- The last corner case that 41_generators.md R123 lists, on 32 STEPZ commands, as it stands there. It contradicts R146, R145 and
program P3 (one step of Z is 32 index units), and the model follows those (log 15), so this is expected to fail. -/
def Obligations.ThirtyTwoStepsOfZAreThirtyTwoIndices : Prop :=
  ∀ (T : Tables) (k : Nat), T.right → k + 32 < 2 ^ 55 → stepZ^[32] (jumpZ T k) = jumpZ T (k + 32)

/-- The periods of Z (41_generators.md R125). -/
def Obligations.PeriodOfTheLargeGenerator : Prop :=
  2 * 3 ^ 32 = 3706040377703682 ∧ Nat.totient Config.M1 = 2 * 3 ^ 32 ∧
  orderOf ((2 : ℕ) : ZMod Config.M1) = 2 * 3 ^ 32 ∧ orderOf ((Config.A1 : ℕ) : ZMod Config.M1) = 2 * 3 ^ 32 ∧
  (∀ z < Config.M1, Nat.Coprime z 3 → Function.minimalPeriod stepZ z = 2 * 3 ^ 32) ∧
  (∀ e u, 1 ≤ e → e ≤ 32 → Nat.Coprime u 3 → 3 ^ e * u < Config.M1 →
    Function.minimalPeriod stepZ (3 ^ e * u) = 2 * 3 ^ (32 - e)) ∧
  Function.IsFixedPt stepZ 0

/-- The periods of W (41_generators.md R126). -/
def Obligations.PeriodOfTheSmallGenerator : Prop :=
  Config.M2 = 3 * 715827883 ∧ Nat.Coprime Config.A2 Config.M2 ∧ Config.A2 % 3 = 1 ∧
  orderOf ((Config.A2 : ℕ) : ZMod 715827883) = 119304647 ∧
  (∀ w < Config.M2, Nat.Coprime w Config.M2 → Function.minimalPeriod stepW w = 119304647) ∧
  (∀ w < Config.M2, w ≠ 0 → 3 ∣ w → Function.minimalPeriod stepW w = 119304647) ∧
  Function.IsFixedPt stepW 715827883 ∧ Function.IsFixedPt stepW 1431655766 ∧ Function.IsFixedPt stepW 0

/-- Combine is the masked two's-complement difference, whatever the width of the subtractor from 31 bits up
(43_combined_stream.md R170). -/
def Obligations.CombineIsTheMaskedDifference : Prop :=
  ∀ w < Config.M2, ∀ z < Config.M1,
    (combine w z : Int) = ((w : Int) - (z : Int)) % 2 ^ 31 ∧
    ∀ n, 31 ≤ n → ((BitVec.ofNat n w - BitVec.ofNat n z).toNat) % 2 ^ 31 = combine w z

/-- NEXT on a valid lane that meets the invariant: the output is below 2^31 and both states stay in range; and the pair of states repeats
with period lcm(2 * 3^32, 119304647) (43_combined_stream.md R172). -/
def Obligations.NextStaysInRangeAndRepeats : Prop :=
  (∀ (s t : State) (l : Nat) (c : Lane), l < s.params.LANES → s.lane l = some c → c.inRange → exec (.next l) s = .next t →
    t.res0.toNat < 2 ^ 31 ∧ ∃ d, t.lane l = some d ∧ d.inRange) ∧
  (∀ z w, z < Config.M1 → w < Config.M2 → Nat.Coprime z 3 → Nat.Coprime w Config.M2 →
    Function.minimalPeriod (Prod.map stepZ stepW) (z, w) = 442147839029684451610254)
end

