-- ==== Sys2Proof/Laws/Arith.lean ====
section
/-! SUPPORT. Bounds of the arithmetic: every result fits the register it goes to (00_scope.md R11), so that no write truncates. -/

namespace Sys2Proof.Machine

theorem mulMod_lt {m : Nat} (h : 0 < m) (x y : Nat) : mulMod m x y < m := Nat.mod_lt _ h

theorem M1_lt : Config.M1 < 2 ^ 53 := by decide

theorem M2_lt : Config.M2 < 2 ^ 32 := by decide

theorem mulMod1_lt (x y : Nat) : mulMod1 x y < Config.M1 := mulMod_lt (by decide) x y

theorem mulMod2_lt (x y : Nat) : mulMod2 x y < Config.M2 := mulMod_lt (by decide) x y

theorem stepZ_lt (z : Nat) : stepZ z < Config.M1 := mulMod1_lt _ _

theorem stepW_lt (w : Nat) : stepW w < Config.M2 := mulMod2_lt _ _

theorem jumpZ_lt (t : Tables) (k : Nat) : jumpZ t k < Config.M1 := mulMod1_lt _ _

theorem jumpW_lt (t : Tables) (k : Nat) : jumpW t k < Config.M2 := mulMod2_lt _ _

theorem squareTimes_lt {m : Nat} (n : Nat) {x : Nat} (hx : x < m) : squareTimes m n x < m := by
  induction n generalizing x with
  | zero => exact hx
  | succ n ih => exact ih (mulMod_lt (Nat.zero_lt_of_lt hx) x x)

theorem rowBase_lt {m : Nat} (h : 0 < m) (a i : Nat) : rowBase a m i < m := by
  induction i with
  | zero => exact Nat.mod_lt _ h
  | succ i ih => exact squareTimes_lt 5 ih

theorem tableCell_lt {m : Nat} (h : 1 < m) (a i j : Nat) : tableCell a m i j < m := by
  match j with
  | 0 => exact h
  | 1 => exact rowBase_lt (Nat.lt_of_succ_lt h) a i
  | j + 2 => exact mulMod_lt (Nat.lt_of_succ_lt h) _ _

/-- A value below M1 is kept whole by the 53 bits of a Z field. -/
theorem toNat_ofNat_z {v : Nat} (h : v < Config.M1) : (BitVec.ofNat 53 v).toNat = v := by
  rw [BitVec.toNat_ofNat, Nat.mod_eq_of_lt (h.trans M1_lt)]

/-- A value below M2 is kept whole by the 32 bits of a W field. -/
theorem toNat_ofNat_w {v : Nat} (h : v < Config.M2) : (BitVec.ofNat 32 v).toNat = v := by
  rw [BitVec.toNat_ofNat, Nat.mod_eq_of_lt (h.trans M2_lt)]

/-- A cell of the tables that INITTAB fills is the cell of the construction recurrence. -/
theorem builtTables_tzCell (i : Fin 11) (j : Fin 32) : builtTables.tzCell i j = tableCell Config.A1 Config.M1 i j := by
  simp [Tables.tzCell, builtTables, -BitVec.toNat_ofNat, toNat_ofNat_z (tableCell_lt (m := Config.M1) (by decide) _ _ _)]

theorem builtTables_twCell (i : Fin 11) (j : Fin 32) : builtTables.twCell i j = tableCell Config.A2 Config.M2 i j := by
  simp [Tables.twCell, builtTables, -BitVec.toNat_ofNat, toNat_ofNat_w (tableCell_lt (m := Config.M2) (by decide) _ _ _)]

@[simp] theorem digit_val (k i : Nat) : (digit k i).val = k / 2 ^ (5 * i) % 32 := rfl

/-- One more digit of the Z jump-ahead: table row n for digit n + 1 (42_jump_ahead.md R143). -/
theorem jumpZFold_succ (t : Tables) (k n : Nat) (h : n + 1 ≤ 10) :
    jumpZFold t k (n + 1) h = mulMod1 (jumpZFold t k n (Nat.le_of_succ_le h)) (t.tzCell ⟨n, Nat.lt_succ_of_lt h⟩ (digit k (n + 1))) :=
  rfl

/-- One more digit of the W jump-ahead: table row n for digit n (42_jump_ahead.md R144). -/
theorem jumpWFold_succ (t : Tables) (k n : Nat) (h : n + 1 ≤ 11) :
    jumpWFold t k (n + 1) h = mulMod2 (jumpWFold t k n (Nat.le_of_succ_le h)) (t.twCell ⟨n, h⟩ (digit k n)) :=
  rfl

end Sys2Proof.Machine
end

