-- ==== Sys2Proof/Laws/Decode.lean ====
section
/-! SUPPORT. The fields of a command word as numbers, and when a word decodes (30_encoding.md R70, R77). -/

namespace Sys2Proof

theorem opcField_toNat (w : Word) : (opcField w).toNat = w.toNat % 2 ^ 8 := by
  simp [opcField]

theorem rsv0Field_toNat (w : Word) : (rsv0Field w).toNat = w.toNat / 2 ^ 8 % 2 ^ 8 := by
  simp [rsv0Field, Nat.shiftRight_eq_div_pow]

theorem laneField_toNat (w : Word) : (laneField w).toNat = w.toNat / 2 ^ 16 % 2 ^ 16 := by
  simp [laneField, Nat.shiftRight_eq_div_pow]

theorem rsv1Field_toNat (w : Word) : (rsv1Field w).toNat = w.toNat / 2 ^ 32 := by
  have hw := w.isLt
  simp only [rsv1Field, BitVec.extractLsb'_toNat, Nat.shiftRight_eq_div_pow]
  omega

theorem opcField_encodeFields {opc : Nat} (h : opc < 2 ^ 8) (lane : Nat) : (opcField (encodeFields opc lane)).toNat = opc := by
  have hl : lane % 2 ^ 16 < 2 ^ 16 := Nat.mod_lt _ (by decide)
  rw [opcField_toNat, encodeFields, BitVec.toNat_ofNat]
  omega

theorem laneField_encodeFields {opc : Nat} (h : opc < 2 ^ 8) (lane : Nat) :
    (laneField (encodeFields opc lane)).toNat = lane % 2 ^ 16 := by
  have hl : lane % 2 ^ 16 < 2 ^ 16 := Nat.mod_lt _ (by decide)
  rw [laneField_toNat, encodeFields, BitVec.toNat_ofNat]
  omega

theorem laneless_eq_ok {lane : BitVec 16} {i j : Instr} : laneless lane i = .ok j ↔ lane = 0#16 ∧ i = j := by
  unfold laneless
  split <;> simp_all

/-- All that a word which decodes can be: no reserved bit, and a row of the table. -/
theorem decode_eq_ok {w : Word} {i : Instr} :
    decode w = .ok i ↔ rsv1Field w = 0#32 ∧ rsv0Field w = 0#8 ∧ decodeRow (opcField w).toNat (laneField w) = .ok i := by
  unfold decode
  split
  · next h =>
    simp only [reduceCtorEq, false_iff]
    tauto
  · next h =>
    rw [not_or, not_not, not_not] at h
    simp [h]

end Sys2Proof
end

