-- ==== Sys2Proof/Laws/State.lean ====
section
/-! SUPPORT. One lemma per field per update of State, and the accessors through every update, so that no proof unfolds a record update.
Each is true by rfl; the parentheses around rfl keep simp from using it as a definitional step, since the kernel would then compare whole
states and unfold the arithmetic (jumpZ, jumpW) that an update stores. -/

namespace Sys2Proof.Machine

/-! ### The completion of a command (60_exceptions.md R203) -/

@[simp] theorem State.complete_params (s : State) (c : ErrCode) : (s.complete c).params = s.params := (rfl)
@[simp] theorem State.complete_lanes (s : State) (c : ErrCode) : (s.complete c).lanes = s.lanes := (rfl)
@[simp] theorem State.complete_tables (s : State) (c : ErrCode) : (s.complete c).tables = s.tables := (rfl)
@[simp] theorem State.complete_opa (s : State) (c : ErrCode) : (s.complete c).opa = s.opa := (rfl)
@[simp] theorem State.complete_opb (s : State) (c : ErrCode) : (s.complete c).opb = s.opb := (rfl)
@[simp] theorem State.complete_res0 (s : State) (c : ErrCode) : (s.complete c).res0 = s.res0 := (rfl)
@[simp] theorem State.complete_res1 (s : State) (c : ErrCode) : (s.complete c).res1 = s.res1 := (rfl)
@[simp] theorem State.complete_busy (s : State) (c : ErrCode) : (s.complete c).busy = false := (rfl)
@[simp] theorem State.complete_pcmd (s : State) (c : ErrCode) : (s.complete c).pcmd = s.pcmd := (rfl)
@[simp] theorem State.complete_sticky (s : State) (c : ErrCode) : (s.complete c).sticky = (s.sticky || decide (c ≠ .none)) := (rfl)
@[simp] theorem State.complete_err (s : State) (c : ErrCode) : (s.complete c).err = c := (rfl)
@[simp] theorem State.complete_events (s : State) (c : ErrCode) : (s.complete c).events = s.events := (rfl)
@[simp] theorem State.complete_returned (s : State) (c : ErrCode) : (s.complete c).returned = s.returned := (rfl)
@[simp] theorem State.complete_draws (s : State) (c : ErrCode) : (s.complete c).draws = s.draws := (rfl)
@[simp] theorem State.complete_lane (s : State) (c : ErrCode) (i : Nat) : (s.complete c).lane i = s.lane i := (rfl)
@[simp] theorem State.complete_V (s : State) (c : ErrCode) (i : Nat) : (s.complete c).V i = s.V i := (rfl)
@[simp] theorem State.complete_TV (s : State) (c : ErrCode) : (s.complete c).TV = s.TV := (rfl)
@[simp] theorem State.complete_opaNat (s : State) (c : ErrCode) : (s.complete c).opaNat = s.opaNat := (rfl)
@[simp] theorem State.complete_opbNat (s : State) (c : ErrCode) : (s.complete c).opbNat = s.opbNat := (rfl)

/-! ### finish() (00_scope.md R12) -/

@[simp] theorem State.finish_params (s : State) : s.finish.params = s.params := (rfl)
@[simp] theorem State.finish_lanes (s : State) : s.finish.lanes = s.lanes := (rfl)
@[simp] theorem State.finish_tables (s : State) : s.finish.tables = s.tables := (rfl)
@[simp] theorem State.finish_opa (s : State) : s.finish.opa = s.opa := (rfl)
@[simp] theorem State.finish_opb (s : State) : s.finish.opb = s.opb := (rfl)
@[simp] theorem State.finish_res0 (s : State) : s.finish.res0 = s.res0 := (rfl)
@[simp] theorem State.finish_res1 (s : State) : s.finish.res1 = s.res1 := (rfl)
@[simp] theorem State.finish_busy (s : State) : s.finish.busy = false := (rfl)
@[simp] theorem State.finish_pcmd (s : State) : s.finish.pcmd = s.pcmd := (rfl)
@[simp] theorem State.finish_sticky (s : State) : s.finish.sticky = s.sticky := by simp [State.finish, State.complete]
@[simp] theorem State.finish_err (s : State) : s.finish.err = .none := (rfl)
@[simp] theorem State.finish_events (s : State) : s.finish.events = s.events := (rfl)
@[simp] theorem State.finish_returned (s : State) : s.finish.returned = s.returned := (rfl)
@[simp] theorem State.finish_draws (s : State) : s.finish.draws = s.draws := (rfl)
@[simp] theorem State.finish_lane (s : State) (i : Nat) : s.finish.lane i = s.lane i := (rfl)
@[simp] theorem State.finish_V (s : State) (i : Nat) : s.finish.V i = s.V i := (rfl)
@[simp] theorem State.finish_TV (s : State) : s.finish.TV = s.TV := (rfl)
@[simp] theorem State.finish_opaNat (s : State) : s.finish.opaNat = s.opaNat := (rfl)
@[simp] theorem State.finish_opbNat (s : State) : s.finish.opbNat = s.opbNat := (rfl)

/-! ### raise Error(e) (00_scope.md R12) -/

@[simp] theorem State.raiseError_params (s : State) (e : ErrCode) : (s.raiseError e).params = s.params := (rfl)
@[simp] theorem State.raiseError_lanes (s : State) (e : ErrCode) : (s.raiseError e).lanes = s.lanes := (rfl)
@[simp] theorem State.raiseError_tables (s : State) (e : ErrCode) : (s.raiseError e).tables = s.tables := (rfl)
@[simp] theorem State.raiseError_opa (s : State) (e : ErrCode) : (s.raiseError e).opa = s.opa := (rfl)
@[simp] theorem State.raiseError_opb (s : State) (e : ErrCode) : (s.raiseError e).opb = s.opb := (rfl)
@[simp] theorem State.raiseError_res0 (s : State) (e : ErrCode) : (s.raiseError e).res0 = s.res0 := (rfl)
@[simp] theorem State.raiseError_res1 (s : State) (e : ErrCode) : (s.raiseError e).res1 = s.res1 := (rfl)
@[simp] theorem State.raiseError_busy (s : State) (e : ErrCode) : (s.raiseError e).busy = false := (rfl)
@[simp] theorem State.raiseError_pcmd (s : State) (e : ErrCode) : (s.raiseError e).pcmd = s.pcmd := (rfl)
@[simp] theorem State.raiseError_sticky (s : State) (e : ErrCode) : (s.raiseError e).sticky = (s.sticky || decide (e ≠ .none)) := (rfl)
@[simp] theorem State.raiseError_err (s : State) (e : ErrCode) : (s.raiseError e).err = e := (rfl)
@[simp] theorem State.raiseError_events (s : State) (e : ErrCode) : (s.raiseError e).events = s.events := (rfl)
@[simp] theorem State.raiseError_returned (s : State) (e : ErrCode) : (s.raiseError e).returned = s.returned := (rfl)
@[simp] theorem State.raiseError_draws (s : State) (e : ErrCode) : (s.raiseError e).draws = s.draws := (rfl)
@[simp] theorem State.raiseError_lane (s : State) (e : ErrCode) (i : Nat) : (s.raiseError e).lane i = s.lane i := (rfl)
@[simp] theorem State.raiseError_V (s : State) (e : ErrCode) (i : Nat) : (s.raiseError e).V i = s.V i := (rfl)
@[simp] theorem State.raiseError_TV (s : State) (e : ErrCode) : (s.raiseError e).TV = s.TV := (rfl)
@[simp] theorem State.raiseError_opaNat (s : State) (e : ErrCode) : (s.raiseError e).opaNat = s.opaNat := (rfl)
@[simp] theorem State.raiseError_opbNat (s : State) (e : ErrCode) : (s.raiseError e).opbNat = s.opbNat := (rfl)

/-! ### Writing a lane context -/

@[simp] theorem State.setLane_params (s : State) (l : Nat) (c : Lane) : (s.setLane l c).params = s.params := (rfl)
@[simp] theorem State.setLane_lanes (s : State) (l : Nat) (c : Lane) : (s.setLane l c).lanes = laneInsert s.lanes l c := (rfl)
@[simp] theorem State.setLane_tables (s : State) (l : Nat) (c : Lane) : (s.setLane l c).tables = s.tables := (rfl)
@[simp] theorem State.setLane_opa (s : State) (l : Nat) (c : Lane) : (s.setLane l c).opa = s.opa := (rfl)
@[simp] theorem State.setLane_opb (s : State) (l : Nat) (c : Lane) : (s.setLane l c).opb = s.opb := (rfl)
@[simp] theorem State.setLane_res0 (s : State) (l : Nat) (c : Lane) : (s.setLane l c).res0 = s.res0 := (rfl)
@[simp] theorem State.setLane_res1 (s : State) (l : Nat) (c : Lane) : (s.setLane l c).res1 = s.res1 := (rfl)
@[simp] theorem State.setLane_busy (s : State) (l : Nat) (c : Lane) : (s.setLane l c).busy = s.busy := (rfl)
@[simp] theorem State.setLane_pcmd (s : State) (l : Nat) (c : Lane) : (s.setLane l c).pcmd = s.pcmd := (rfl)
@[simp] theorem State.setLane_sticky (s : State) (l : Nat) (c : Lane) : (s.setLane l c).sticky = s.sticky := (rfl)
@[simp] theorem State.setLane_err (s : State) (l : Nat) (c : Lane) : (s.setLane l c).err = s.err := (rfl)
@[simp] theorem State.setLane_events (s : State) (l : Nat) (c : Lane) : (s.setLane l c).events = s.events := (rfl)
@[simp] theorem State.setLane_returned (s : State) (l : Nat) (c : Lane) : (s.setLane l c).returned = s.returned := (rfl)
@[simp] theorem State.setLane_draws (s : State) (l : Nat) (c : Lane) : (s.setLane l c).draws = s.draws := (rfl)
@[simp] theorem State.setLane_TV (s : State) (l : Nat) (c : Lane) : (s.setLane l c).TV = s.TV := (rfl)
@[simp] theorem State.setLane_opaNat (s : State) (l : Nat) (c : Lane) : (s.setLane l c).opaNat = s.opaNat := (rfl)
@[simp] theorem State.setLane_opbNat (s : State) (l : Nat) (c : Lane) : (s.setLane l c).opbNat = s.opbNat := (rfl)

/-! ### Writing RES0 -/

@[simp] theorem State.setRes0_params (s : State) (v : Nat) : (s.setRes0 v).params = s.params := (rfl)
@[simp] theorem State.setRes0_lanes (s : State) (v : Nat) : (s.setRes0 v).lanes = s.lanes := (rfl)
@[simp] theorem State.setRes0_tables (s : State) (v : Nat) : (s.setRes0 v).tables = s.tables := (rfl)
@[simp] theorem State.setRes0_opa (s : State) (v : Nat) : (s.setRes0 v).opa = s.opa := (rfl)
@[simp] theorem State.setRes0_opb (s : State) (v : Nat) : (s.setRes0 v).opb = s.opb := (rfl)
@[simp] theorem State.setRes0_res0 (s : State) (v : Nat) : (s.setRes0 v).res0 = BitVec.ofNat 64 v := (rfl)
@[simp] theorem State.setRes0_res1 (s : State) (v : Nat) : (s.setRes0 v).res1 = s.res1 := (rfl)
@[simp] theorem State.setRes0_busy (s : State) (v : Nat) : (s.setRes0 v).busy = s.busy := (rfl)
@[simp] theorem State.setRes0_pcmd (s : State) (v : Nat) : (s.setRes0 v).pcmd = s.pcmd := (rfl)
@[simp] theorem State.setRes0_sticky (s : State) (v : Nat) : (s.setRes0 v).sticky = s.sticky := (rfl)
@[simp] theorem State.setRes0_err (s : State) (v : Nat) : (s.setRes0 v).err = s.err := (rfl)
@[simp] theorem State.setRes0_events (s : State) (v : Nat) : (s.setRes0 v).events = s.events := (rfl)
@[simp] theorem State.setRes0_returned (s : State) (v : Nat) : (s.setRes0 v).returned = s.returned := (rfl)
@[simp] theorem State.setRes0_draws (s : State) (v : Nat) : (s.setRes0 v).draws = s.draws := (rfl)
@[simp] theorem State.setRes0_lane (s : State) (v : Nat) (i : Nat) : (s.setRes0 v).lane i = s.lane i := (rfl)
@[simp] theorem State.setRes0_V (s : State) (v : Nat) (i : Nat) : (s.setRes0 v).V i = s.V i := (rfl)
@[simp] theorem State.setRes0_TV (s : State) (v : Nat) : (s.setRes0 v).TV = s.TV := (rfl)
@[simp] theorem State.setRes0_opaNat (s : State) (v : Nat) : (s.setRes0 v).opaNat = s.opaNat := (rfl)
@[simp] theorem State.setRes0_opbNat (s : State) (v : Nat) : (s.setRes0 v).opbNat = s.opbNat := (rfl)

/-! ### Writing RES1 -/

@[simp] theorem State.setRes1_params (s : State) (v : Nat) : (s.setRes1 v).params = s.params := (rfl)
@[simp] theorem State.setRes1_lanes (s : State) (v : Nat) : (s.setRes1 v).lanes = s.lanes := (rfl)
@[simp] theorem State.setRes1_tables (s : State) (v : Nat) : (s.setRes1 v).tables = s.tables := (rfl)
@[simp] theorem State.setRes1_opa (s : State) (v : Nat) : (s.setRes1 v).opa = s.opa := (rfl)
@[simp] theorem State.setRes1_opb (s : State) (v : Nat) : (s.setRes1 v).opb = s.opb := (rfl)
@[simp] theorem State.setRes1_res0 (s : State) (v : Nat) : (s.setRes1 v).res0 = s.res0 := (rfl)
@[simp] theorem State.setRes1_res1 (s : State) (v : Nat) : (s.setRes1 v).res1 = BitVec.ofNat 64 v := (rfl)
@[simp] theorem State.setRes1_busy (s : State) (v : Nat) : (s.setRes1 v).busy = s.busy := (rfl)
@[simp] theorem State.setRes1_pcmd (s : State) (v : Nat) : (s.setRes1 v).pcmd = s.pcmd := (rfl)
@[simp] theorem State.setRes1_sticky (s : State) (v : Nat) : (s.setRes1 v).sticky = s.sticky := (rfl)
@[simp] theorem State.setRes1_err (s : State) (v : Nat) : (s.setRes1 v).err = s.err := (rfl)
@[simp] theorem State.setRes1_events (s : State) (v : Nat) : (s.setRes1 v).events = s.events := (rfl)
@[simp] theorem State.setRes1_returned (s : State) (v : Nat) : (s.setRes1 v).returned = s.returned := (rfl)
@[simp] theorem State.setRes1_draws (s : State) (v : Nat) : (s.setRes1 v).draws = s.draws := (rfl)
@[simp] theorem State.setRes1_lane (s : State) (v : Nat) (i : Nat) : (s.setRes1 v).lane i = s.lane i := (rfl)
@[simp] theorem State.setRes1_V (s : State) (v : Nat) (i : Nat) : (s.setRes1 v).V i = s.V i := (rfl)
@[simp] theorem State.setRes1_TV (s : State) (v : Nat) : (s.setRes1 v).TV = s.TV := (rfl)
@[simp] theorem State.setRes1_opaNat (s : State) (v : Nat) : (s.setRes1 v).opaNat = s.opaNat := (rfl)
@[simp] theorem State.setRes1_opbNat (s : State) (v : Nat) : (s.setRes1 v).opbNat = s.opbNat := (rfl)

/-! ### Latching a command word (10_state.md R27) -/

@[simp] theorem State.latch_params (s : State) (w : Word) : (s.latch w).params = s.params := (rfl)
@[simp] theorem State.latch_lanes (s : State) (w : Word) : (s.latch w).lanes = s.lanes := (rfl)
@[simp] theorem State.latch_tables (s : State) (w : Word) : (s.latch w).tables = s.tables := (rfl)
@[simp] theorem State.latch_opa (s : State) (w : Word) : (s.latch w).opa = s.opa := (rfl)
@[simp] theorem State.latch_opb (s : State) (w : Word) : (s.latch w).opb = s.opb := (rfl)
@[simp] theorem State.latch_res0 (s : State) (w : Word) : (s.latch w).res0 = s.res0 := (rfl)
@[simp] theorem State.latch_res1 (s : State) (w : Word) : (s.latch w).res1 = s.res1 := (rfl)
@[simp] theorem State.latch_busy (s : State) (w : Word) : (s.latch w).busy = true := (rfl)
@[simp] theorem State.latch_pcmd (s : State) (w : Word) : (s.latch w).pcmd = w := (rfl)
@[simp] theorem State.latch_sticky (s : State) (w : Word) : (s.latch w).sticky = s.sticky := (rfl)
@[simp] theorem State.latch_err (s : State) (w : Word) : (s.latch w).err = s.err := (rfl)
@[simp] theorem State.latch_events (s : State) (w : Word) : (s.latch w).events = s.events := (rfl)
@[simp] theorem State.latch_returned (s : State) (w : Word) : (s.latch w).returned = s.returned := (rfl)
@[simp] theorem State.latch_draws (s : State) (w : Word) : (s.latch w).draws = s.draws := (rfl)
@[simp] theorem State.latch_lane (s : State) (w : Word) (i : Nat) : (s.latch w).lane i = s.lane i := (rfl)
@[simp] theorem State.latch_V (s : State) (w : Word) (i : Nat) : (s.latch w).V i = s.V i := (rfl)
@[simp] theorem State.latch_TV (s : State) (w : Word) : (s.latch w).TV = s.TV := (rfl)
@[simp] theorem State.latch_opaNat (s : State) (w : Word) : (s.latch w).opaNat = s.opaNat := (rfl)
@[simp] theorem State.latch_opbNat (s : State) (w : Word) : (s.latch w).opbNat = s.opbNat := (rfl)

/-! ### Answering a read -/

@[simp] theorem State.answer_params (s : State) (v : Word) : (s.answer v).params = s.params := (rfl)
@[simp] theorem State.answer_lanes (s : State) (v : Word) : (s.answer v).lanes = s.lanes := (rfl)
@[simp] theorem State.answer_tables (s : State) (v : Word) : (s.answer v).tables = s.tables := (rfl)
@[simp] theorem State.answer_opa (s : State) (v : Word) : (s.answer v).opa = s.opa := (rfl)
@[simp] theorem State.answer_opb (s : State) (v : Word) : (s.answer v).opb = s.opb := (rfl)
@[simp] theorem State.answer_res0 (s : State) (v : Word) : (s.answer v).res0 = s.res0 := (rfl)
@[simp] theorem State.answer_res1 (s : State) (v : Word) : (s.answer v).res1 = s.res1 := (rfl)
@[simp] theorem State.answer_busy (s : State) (v : Word) : (s.answer v).busy = s.busy := (rfl)
@[simp] theorem State.answer_pcmd (s : State) (v : Word) : (s.answer v).pcmd = s.pcmd := (rfl)
@[simp] theorem State.answer_sticky (s : State) (v : Word) : (s.answer v).sticky = s.sticky := (rfl)
@[simp] theorem State.answer_err (s : State) (v : Word) : (s.answer v).err = s.err := (rfl)
@[simp] theorem State.answer_events (s : State) (v : Word) : (s.answer v).events = s.events := (rfl)
@[simp] theorem State.answer_returned (s : State) (v : Word) : (s.answer v).returned = bytesOfWord v :: s.returned := (rfl)
@[simp] theorem State.answer_draws (s : State) (v : Word) : (s.answer v).draws = s.draws := (rfl)
@[simp] theorem State.answer_lane (s : State) (v : Word) (i : Nat) : (s.answer v).lane i = s.lane i := (rfl)
@[simp] theorem State.answer_V (s : State) (v : Word) (i : Nat) : (s.answer v).V i = s.V i := (rfl)
@[simp] theorem State.answer_TV (s : State) (v : Word) : (s.answer v).TV = s.TV := (rfl)
@[simp] theorem State.answer_opaNat (s : State) (v : Word) : (s.answer v).opaNat = s.opaNat := (rfl)
@[simp] theorem State.answer_opbNat (s : State) (v : Word) : (s.answer v).opbNat = s.opbNat := (rfl)

/-! ### The reset input (70_reset_and_hazards.md R230, R231) -/

@[simp] theorem State.assertReset_params (s : State) : s.assertReset.params = s.params := (rfl)
@[simp] theorem State.assertReset_lanes (s : State) : s.assertReset.lanes = [] := (rfl)
@[simp] theorem State.assertReset_tables (s : State) : s.assertReset.tables = .none := (rfl)
@[simp] theorem State.assertReset_opa (s : State) : s.assertReset.opa = 0#64 := (rfl)
@[simp] theorem State.assertReset_opb (s : State) : s.assertReset.opb = 0#64 := (rfl)
@[simp] theorem State.assertReset_res0 (s : State) : s.assertReset.res0 = 0#64 := (rfl)
@[simp] theorem State.assertReset_res1 (s : State) : s.assertReset.res1 = 0#64 := (rfl)
@[simp] theorem State.assertReset_busy (s : State) : s.assertReset.busy = false := (rfl)
@[simp] theorem State.assertReset_pcmd (s : State) : s.assertReset.pcmd = 0#64 := (rfl)
@[simp] theorem State.assertReset_sticky (s : State) : s.assertReset.sticky = false := (rfl)
@[simp] theorem State.assertReset_err (s : State) : s.assertReset.err = .none := (rfl)
@[simp] theorem State.assertReset_events (s : State) : s.assertReset.events = s.events := (rfl)
@[simp] theorem State.assertReset_returned (s : State) : s.assertReset.returned = s.returned := (rfl)
@[simp] theorem State.assertReset_draws (s : State) : s.assertReset.draws = s.draws := (rfl)
@[simp] theorem State.assertReset_lane (s : State) (i : Nat) : s.assertReset.lane i = .none := (rfl)
@[simp] theorem State.assertReset_V (s : State) (i : Nat) : s.assertReset.V i = false := (rfl)
@[simp] theorem State.assertReset_TV (s : State) : s.assertReset.TV = false := (rfl)

/-! ### The state after reset (70_reset_and_hazards.md R231) -/

@[simp] theorem State.atReset_params (p : Params) : (State.atReset p).params = p := (rfl)
@[simp] theorem State.atReset_lanes (p : Params) : (State.atReset p).lanes = [] := (rfl)
@[simp] theorem State.atReset_tables (p : Params) : (State.atReset p).tables = .none := (rfl)
@[simp] theorem State.atReset_opa (p : Params) : (State.atReset p).opa = 0#64 := (rfl)
@[simp] theorem State.atReset_opb (p : Params) : (State.atReset p).opb = 0#64 := (rfl)
@[simp] theorem State.atReset_res0 (p : Params) : (State.atReset p).res0 = 0#64 := (rfl)
@[simp] theorem State.atReset_res1 (p : Params) : (State.atReset p).res1 = 0#64 := (rfl)
@[simp] theorem State.atReset_busy (p : Params) : (State.atReset p).busy = false := (rfl)
@[simp] theorem State.atReset_pcmd (p : Params) : (State.atReset p).pcmd = 0#64 := (rfl)
@[simp] theorem State.atReset_sticky (p : Params) : (State.atReset p).sticky = false := (rfl)
@[simp] theorem State.atReset_err (p : Params) : (State.atReset p).err = .none := (rfl)
@[simp] theorem State.atReset_events (p : Params) : (State.atReset p).events = [] := (rfl)
@[simp] theorem State.atReset_returned (p : Params) : (State.atReset p).returned = [] := (rfl)
@[simp] theorem State.atReset_draws (p : Params) : (State.atReset p).draws = 0 := (rfl)
@[simp] theorem State.atReset_lane (p : Params) (i : Nat) : (State.atReset p).lane i = .none := (rfl)
@[simp] theorem State.atReset_V (p : Params) (i : Nat) : (State.atReset p).V i = false := (rfl)
@[simp] theorem State.atReset_TV (p : Params) : (State.atReset p).TV = false := (rfl)

end Sys2Proof.Machine
end

