-- ==== Sys2Proof/Laws/Lanes.lean ====
section
/-! SUPPORT. The lane contexts as a memory keyed by lane: a read after a write, and the canonical form, which a write keeps. -/

namespace Sys2Proof.Machine

/-- A lane reads back what was written to it, in any list of contexts. -/
theorem laneLookup_laneInsert_same (ls : List (Nat × Lane)) (l : Nat) (c : Lane) :
    laneLookup (laneInsert ls l c) l = some c := by
  induction ls with
  | nil => simp [laneInsert, laneLookup]
  | cons p rest ih =>
    obtain ⟨k, d⟩ := p
    simp only [laneInsert]
    split
    · simp [laneLookup]
    · split
      · simp [laneLookup]
      · next hk => simpa [laneLookup, Ne.symm hk] using ih

/-- A write to one lane leaves every other lane alone, in any list of contexts. -/
theorem laneLookup_laneInsert_other (ls : List (Nat × Lane)) {l i : Nat} (c : Lane) (h : i ≠ l) :
    laneLookup (laneInsert ls l c) i = laneLookup ls i := by
  induction ls with
  | nil => simp [laneInsert, laneLookup, h.symm]
  | cons p rest ih =>
    obtain ⟨k, d⟩ := p
    simp only [laneInsert]
    split
    · simp [laneLookup, h.symm]
    · split
      · next hk => subst hk; simp [laneLookup, h.symm]
      · simp [laneLookup, ih]

@[simp] theorem State.setLane_lane_same (s : State) (l : Nat) (c : Lane) : (s.setLane l c).lane l = some c :=
  laneLookup_laneInsert_same s.lanes l c

@[simp] theorem State.setLane_lane_other (s : State) {l i : Nat} (c : Lane) (h : i ≠ l) : (s.setLane l c).lane i = s.lane i :=
  laneLookup_laneInsert_other s.lanes c h

/-- The canonical form is that of a strictly rising list of keys. -/
theorem lanesWf_iff (ls : List (Nat × Lane)) : lanesWf ls = true ↔ (ls.map Prod.fst).Pairwise (· < ·) := by
  rw [← List.isChain_iff_pairwise]
  induction ls with
  | nil => simp [lanesWf]
  | cons p rest ih =>
    cases rest with
    | nil => simp [lanesWf]
    | cons q rest =>
      obtain ⟨k, c⟩ := p
      obtain ⟨k', d⟩ := q
      simp only [lanesWf, Bool.and_eq_true, decide_eq_true_eq, List.map_cons, List.isChain_cons_cons] at ih ⊢
      rw [ih]

/-- What a list of contexts holds after a write: the written one, or one that was there. -/
theorem mem_laneInsert {ls : List (Nat × Lane)} {l : Nat} {c : Lane} {p : Nat × Lane} (h : p ∈ laneInsert ls l c) :
    p = (l, c) ∨ p ∈ ls := by
  induction ls with
  | nil => simpa [laneInsert] using h
  | cons q rest ih =>
    obtain ⟨k, d⟩ := q
    simp only [laneInsert] at h
    split at h
    · simpa using h
    · split at h
      · rcases List.mem_cons.mp h with h | h
        · exact .inl h
        · exact .inr (List.mem_cons_of_mem _ h)
      · rcases List.mem_cons.mp h with h | h
        · exact .inr (h ▸ List.mem_cons_self ..)
        · exact (ih h).imp id (List.mem_cons_of_mem _)

/-- A write keeps the canonical form. -/
theorem lanesWf_laneInsert {ls : List (Nat × Lane)} (l : Nat) (c : Lane) (h : lanesWf ls = true) :
    lanesWf (laneInsert ls l c) = true := by
  rw [lanesWf_iff] at h ⊢
  induction ls with
  | nil => simp [laneInsert]
  | cons q rest ih =>
    obtain ⟨k, d⟩ := q
    simp only [List.map_cons, List.pairwise_cons] at h
    simp only [laneInsert]
    split
    · next hlk =>
      simp only [List.map_cons, List.pairwise_cons]
      refine ⟨fun a ha => ?_, h.1, h.2⟩
      rcases List.mem_cons.mp ha with rfl | ha
      · exact hlk
      · exact hlk.trans (h.1 a ha)
    · split
      · next hk => subst hk; simpa using h
      · next hlk hne =>
        simp only [List.map_cons, List.pairwise_cons]
        refine ⟨fun a ha => ?_, ih h.2⟩
        obtain ⟨p, hp, rfl⟩ := List.mem_map.mp ha
        rcases mem_laneInsert hp with rfl | hp
        · exact Nat.lt_of_le_of_ne (Nat.le_of_not_lt hlk) (Ne.symm hne)
        · exact h.1 _ (List.mem_map_of_mem hp)

/-- A lane that reads as a context is in the list. -/
theorem laneLookup_mem {ls : List (Nat × Lane)} {l : Nat} {c : Lane} (h : laneLookup ls l = some c) : (l, c) ∈ ls := by
  induction ls with
  | nil => simp [laneLookup] at h
  | cons q rest ih =>
    obtain ⟨k, d⟩ := q
    simp only [laneLookup] at h
    split at h
    · next hk => subst hk; simp_all
    · exact List.mem_cons_of_mem _ (ih h)

end Sys2Proof.Machine
end

