-- ==== Sys2Proof/Laws/Ops.lean ====
section
/-! SUPPORT. What each shared operation of a command can do, said once. -/

namespace Sys2Proof.Machine

/-! ### Checks -/

theorem require_eq_ok {ok : Bool} {e : ErrCode} {rest : Except ErrCode State} {t : State} :
    require ok e rest = .ok t ↔ ok = true ∧ rest = .ok t := by
  cases ok <;> simp [require]

theorem require_eq_error {ok : Bool} {e e' : ErrCode} {rest : Except ErrCode State} :
    require ok e rest = .error e' ↔ (ok = false ∧ e' = e) ∨ (ok = true ∧ rest = .error e') := by
  cases ok <;> simp [require, eq_comm]

theorem State.checkLane_eq_ok {s t : State} {l : Nat} {rest : Except ErrCode State} :
    s.checkLane l rest = .ok t ↔ l < s.params.LANES ∧ rest = .ok t := by
  simp [State.checkLane, require_eq_ok]

theorem State.checkLane_eq_error {s : State} {l : Nat} {rest : Except ErrCode State} {e : ErrCode} :
    s.checkLane l rest = .error e ↔ (s.params.LANES ≤ l ∧ e = .lane) ∨ (l < s.params.LANES ∧ rest = .error e) := by
  simp [State.checkLane, require_eq_error]

theorem State.withTables_eq_ok {s t : State} {rest : Tables → Except ErrCode State} :
    s.withTables rest = .ok t ↔ ∃ T, s.tables = some T ∧ rest T = .ok t := by
  cases h : s.tables <;> simp [State.withTables, h]

theorem State.withTables_eq_error {s : State} {rest : Tables → Except ErrCode State} {e : ErrCode} :
    s.withTables rest = .error e ↔ (s.tables = .none ∧ e = .notables) ∨ ∃ T, s.tables = some T ∧ rest T = .error e := by
  cases h : s.tables <;> simp [State.withTables, h, eq_comm]

theorem State.withContext_eq_ok {s t : State} {l : Nat} {rest : Lane → Except ErrCode State} :
    s.withContext l rest = .ok t ↔ ∃ c, s.lane l = some c ∧ rest c = .ok t := by
  cases h : s.lane l <;> simp [State.withContext, h]

theorem State.withContext_eq_error {s : State} {l : Nat} {rest : Lane → Except ErrCode State} {e : ErrCode} :
    s.withContext l rest = .error e ↔ (s.lane l = .none ∧ e = .nostate) ∨ ∃ c, s.lane l = some c ∧ rest c = .error e := by
  cases h : s.lane l <;> simp [State.withContext, h, eq_comm]

theorem withIndex_eq_ok {ij : Option (Fin 11 × Fin 32)} {rest : Fin 11 → Fin 32 → Except ErrCode State} {t : State} :
    withIndex ij rest = .ok t ↔ ∃ i j, ij = some (i, j) ∧ rest i j = .ok t := by
  rcases ij with _ | ⟨i, j⟩ <;> simp [withIndex]

theorem withIndex_eq_error {ij : Option (Fin 11 × Fin 32)} {rest : Fin 11 → Fin 32 → Except ErrCode State} {e : ErrCode} :
    withIndex ij rest = .error e ↔ (ij = .none ∧ e = .tindex) ∨ ∃ i j, ij = some (i, j) ∧ rest i j = .error e := by
  rcases ij with _ | ⟨i, j⟩ <;> simp [withIndex, eq_comm]

/-! ### Operands -/

theorem State.operandsFit_iff {s : State} {n : Nat} : s.operandsFit n = true ↔ s.opa.toNat < 2 ^ n ∧ s.opb.toNat < 2 ^ n := by
  simp [State.operandsFit, State.opaNat, State.opbNat]

theorem State.operandsReduced_iff {s : State} :
    s.operandsReduced = true ↔ s.opa.toNat < Config.M1 ∧ s.opb.toNat < Config.M2 := by
  simp [State.operandsReduced, State.opaNat, State.opbNat]

theorem State.operandsNonzero_iff {s : State} : s.operandsNonzero = true ↔ s.opa.toNat ≠ 0 ∧ s.opb.toNat ≠ 0 := by
  simp [State.operandsNonzero, State.opaNat, State.opbNat]

theorem State.tableIndex_eq_some {s : State} {i : Fin 11} {j : Fin 32} :
    s.tableIndex = some (i, j) ↔ s.opa.toNat = i.val ∧ s.opb.toNat = j.val := by
  unfold State.tableIndex
  split
  · simp [Fin.ext_iff]
  · next h =>
    simp only [reduceCtorEq, false_iff]
    rintro ⟨hi, hj⟩
    exact h ⟨hi.trans_lt i.isLt, hj.trans_lt j.isLt⟩

theorem State.tableIndex_eq_none {s : State} : s.tableIndex = .none ↔ ¬ (s.opa.toNat < 11 ∧ s.opb.toNat < 32) := by
  unfold State.tableIndex
  split <;> simp_all

/-! ### Completion -/

/-- finish() as one record update (60_exceptions.md R203). -/
theorem State.finish_eq (s : State) : s.finish = { s with err := .none, busy := false } := by
  simp [State.finish, State.complete]

/-- raise Error(e) as one record update, for a non-zero code (60_exceptions.md R203, R204). -/
theorem State.raiseError_eq (s : State) {e : ErrCode} (h : e ≠ .none) :
    s.raiseError e = { s with err := e, sticky := true, busy := false } := by
  simp [State.raiseError, State.complete, h]

/-- A performed command ends in exactly one next state. -/
theorem State.perform_eq_next {s t : State} {r : Except ErrCode State} : s.perform r = .next t ↔ s.afterCommand r = t := by
  simp [State.perform]

/-- All that a performed command can do: finish with its writes made, or raise one error. -/
theorem State.perform_cases {s t : State} {r : Except ErrCode State} (h : s.perform r = .next t) :
    (∃ u, r = .ok u ∧ t = u.finish) ∨ ∃ e, r = .error e ∧ t = s.raiseError e := by
  rw [State.perform_eq_next] at h
  cases r with
  | ok u => exact .inl ⟨u, rfl, h.symm⟩
  | error e => exact .inr ⟨e, rfl, h.symm⟩

theorem State.perform_ok (s u : State) : s.perform (.ok u) = .next u.finish := rfl

theorem State.perform_error (s : State) (e : ErrCode) : s.perform (.error e) = .next (s.raiseError e) := rfl

end Sys2Proof.Machine
end

