-- ==== Sys2Proof/Laws/PerInstr.lean ====
section
/-! SUPPORT. One law of every command as syntax: the encoder leaves the reserved fields RSV0 and RSV1 at 0 (30_encoding.md R70, R73). -/

namespace Sys2Proof.Laws.ReservedFieldsZero

/-- The command word of i has RSV0 = 0 and RSV1 = 0. -/
def Statement (i : Instr) : Prop := rsv0Field (encode i) = 0#8 ∧ rsv1Field (encode i) = 0#32

/-- Enc leaves both reserved fields at 0, whatever the lane. -/
theorem encodeFields_reserved {opc : Nat} (h : opc < 2 ^ 8) (lane : Nat) :
    rsv0Field (encodeFields opc lane) = 0#8 ∧ rsv1Field (encodeFields opc lane) = 0#32 := by
  have hl : lane % 2 ^ 16 < 2 ^ 16 := Nat.mod_lt _ (by decide)
  constructor <;> apply BitVec.eq_of_toNat_eq <;>
    simp only [rsv0Field, rsv1Field, encodeFields, BitVec.extractLsb'_toNat, BitVec.toNat_ofNat, Nat.shiftRight_eq_div_pow] <;> omega

theorem mulmod1 : Statement .mulmod1 := encodeFields_reserved (by decide) _
theorem mulmod2 : Statement .mulmod2 := encodeFields_reserved (by decide) _
theorem stepz (lane : Nat) : Statement (.stepz lane) := encodeFields_reserved (by decide) _
theorem stepw (lane : Nat) : Statement (.stepw lane) := encodeFields_reserved (by decide) _
theorem inittab : Statement .inittab := encodeFields_reserved (by decide) _
theorem treadz : Statement .treadz := encodeFields_reserved (by decide) _
theorem treadw : Statement .treadw := encodeFields_reserved (by decide) _
theorem seed (lane : Nat) : Statement (.seed lane) := encodeFields_reserved (by decide) _
theorem next (lane : Nat) : Statement (.next lane) := encodeFields_reserved (by decide) _
theorem ldstate (lane : Nat) : Statement (.ldstate lane) := encodeFields_reserved (by decide) _
theorem rdstate (lane : Nat) : Statement (.rdstate lane) := encodeFields_reserved (by decide) _

end Sys2Proof.Laws.ReservedFieldsZero
end

