-- ==== Sys2Proof/Laws/Step.lean ====
section
/-! SUPPORT. What one step can do, said once: the core agent's turn, a host access or a reset. -/

namespace Sys2Proof.Machine

/-- All that a turn of the core agent can do: nothing while BUSY = 0, else the pending command, or ILLEGAL. -/
theorem State.coreTurn_cases {s t : State} (h : s.coreTurn = .next t) :
    (s.busy = false ∧ t = s) ∨
    (s.busy = true ∧ ∃ i, decode s.pcmd = .ok i ∧ exec i s = .next t) ∨
    (s.busy = true ∧ (∃ e, decode s.pcmd = .error e) ∧ t = s.raiseError .illegal) := by
  unfold State.coreTurn State.fetch at h
  split at h
  · next hb =>
    split at h
    · next i hd => exact .inr (.inl ⟨hb, i, hd, h⟩)
    · next e hd => exact .inr (.inr ⟨hb, ⟨e, hd⟩, by simpa [State.perform, State.afterCommand, eq_comm] using h⟩)
  · next hb => exact .inl ⟨by simpa using hb, by simpa [eq_comm] using h⟩

/-- All that a step can do, by what stands first in the interleaving. -/
theorem step_cases {s t : State} (h : step s = .next t) :
    (s.events = [] ∧ s.coreTurn = .next t) ∨
    (∃ rest, s.events = .core :: rest ∧ State.coreTurn { s with events := rest } = .next t) ∨
    (∃ a rest, s.events = .host a :: rest ∧ State.access { s with events := rest } a = .next t) ∨
    (∃ rest, s.events = .reset :: rest ∧ t = State.assertReset { s with events := rest }) := by
  unfold step at h
  split at h
  · next he => exact .inl ⟨he, h⟩
  · next e rest he =>
    cases e with
    | core => exact .inr (.inl ⟨rest, he, h⟩)
    | host a => exact .inr (.inr (.inl ⟨a, rest, he, h⟩))
    | reset => exact .inr (.inr (.inr ⟨rest, he, by simpa [State.happen, eq_comm] using h⟩))

/-- withFetchWord puts the word where the next step takes its command. -/
@[simp] theorem State.withFetchWord_pcmd (s : State) (nbits w : Nat) :
    (s.withFetchWord nbits w).pcmd = BitVec.ofNat 64 (w % 2 ^ nbits) := rfl

@[simp] theorem State.withFetchWord_busy (s : State) (nbits w : Nat) : (s.withFetchWord nbits w).busy = true := rfl

end Sys2Proof.Machine
end

