-- ==== Sys2Proof/Laws/Window.lean ====
section
/-! SUPPORT. Which register an access reaches, and what a read or a write can do. -/

namespace Sys2Proof.Machine

/-- The eight registers stand at the eight offsets, and nothing stands elsewhere (20_memory.md R51). -/
theorem regAt_eq_some {off : Nat} {r : Reg} :
    regAt off = some r ↔
      (off = 0x00 ∧ r = .opa) ∨ (off = 0x08 ∧ r = .opb) ∨ (off = 0x10 ∧ r = .cmd) ∨ (off = 0x18 ∧ r = .status) ∨
      (off = 0x20 ∧ r = .res0) ∨ (off = 0x28 ∧ r = .res1) ∨ (off = 0x30 ∧ r = .cfg) ∨ (off = 0x38 ∧ r = .reserved) := by
  constructor
  · intro h
    unfold regAt at h
    split at h <;> simp_all
  · rintro (⟨rfl, rfl⟩ | ⟨rfl, rfl⟩ | ⟨rfl, rfl⟩ | ⟨rfl, rfl⟩ | ⟨rfl, rfl⟩ | ⟨rfl, rfl⟩ | ⟨rfl, rfl⟩ | ⟨rfl, rfl⟩) <;> rfl

/-- Every register stands at its offset (20_memory.md R51, 30_encoding.md R80). -/
theorem regAt_offset (r : Reg) : regAt r.offset = some r := by cases r <;> rfl

/-- An access reaches a register exactly when it has 8 bytes and its offset is the register's. -/
theorem State.target_eq_some {s : State} {addr size : Nat} {r : Reg} :
    s.target addr size = some r ↔ size = 8 ∧ ∃ off, addr = s.params.BASE + off ∧ regAt off = some r := by
  unfold State.target
  split
  · next h =>
    constructor
    · intro hr
      exact ⟨h.1, addr - s.params.BASE, by omega, hr⟩
    · rintro ⟨_, off, rfl, hr⟩
      simpa using hr
  · next h =>
    simp only [reduceCtorEq, false_iff]
    rintro ⟨h8, off, rfl, _⟩
    exact h ⟨h8, by omega⟩

/-- An 8-byte access at BASE plus a register's offset reaches that register. -/
theorem State.target_offset (s : State) (r : Reg) : s.target (s.params.BASE + r.offset) 8 = some r :=
  State.target_eq_some.mpr ⟨rfl, r.offset, rfl, regAt_offset r⟩

/-- All that a write of a register can do (20_memory.md R55, R56; 70_reset_and_hazards.md R234). -/
theorem State.writeReg_cases {s t : State} {r : Reg} {v : Word} (h : s.writeReg r v = .next t) :
    (r = .opa ∧ s.busy = false ∧ t = { s with opa := v }) ∨
    (r = .opb ∧ s.busy = false ∧ t = { s with opb := v }) ∨
    (r = .cmd ∧ s.busy = false ∧ t = s.latch v) ∨
    ((r = .status ∨ r = .res0 ∨ r = .res1 ∨ r = .cfg ∨ r = .reserved) ∧ t = s) := by
  cases r <;> cases hb : s.busy <;> simp [State.writeReg, State.writeWhenIdle, hb] at h <;> subst h <;> simp

/-- All that a read of a register can do: it answers the register's value, and a STATUS read while BUSY = 1 also draws a free value
(20_memory.md R57; 70_reset_and_hazards.md R235, R236). -/
theorem State.readReg_cases {s t : State} {r : Reg} (h : s.readReg r = .next t) :
    (r = .opa ∧ t = s.answer s.opa) ∨
    (r = .opb ∧ t = s.answer s.opb) ∨
    ((r = .cmd ∨ r = .reserved) ∧ t = s.answer 0#64) ∨
    (r = .status ∧ s.busy = false ∧ t = s.answer s.idleStatus) ∨
    (r = .status ∧ s.busy = true ∧ t = { s.answer s.busyStatus with draws := s.draws + 1 }) ∨
    (r = .res0 ∧ s.busy = false ∧ t = s.answer s.res0) ∨
    (r = .res1 ∧ s.busy = false ∧ t = s.answer s.res1) ∨
    (r = .cfg ∧ t = s.answer s.cfg) := by
  cases r <;> cases hb : s.busy <;> simp [State.readReg, State.readWhenIdle, hb] at h <;> subst h <;> simp_all

/-- All that an access can do: read or write the register it reaches (20_memory.md R51, R52). -/
theorem State.access_cases {s t : State} {a : Access} (h : s.access a = .next t) :
    (∃ addr r, a = .read addr 8 ∧ s.target addr 8 = some r ∧ s.readReg r = .next t) ∨
    (∃ addr data r, a = .write addr data ∧ data.length = 8 ∧ s.target addr 8 = some r ∧
      s.writeReg r (wordOfBytes data) = .next t) := by
  cases a with
  | read addr size =>
    simp only [State.access] at h
    split at h
    · next r hr =>
      have h8 := (State.target_eq_some.mp hr).1
      subst h8
      exact .inl ⟨addr, r, rfl, hr, h⟩
    · cases h
  | write addr data =>
    simp only [State.access] at h
    split at h
    · next r hr =>
      have h8 := (State.target_eq_some.mp hr).1
      exact .inr ⟨addr, data, r, rfl, h8, h8 ▸ hr, h⟩
    · cases h

end Sys2Proof.Machine
end

