-- ==== Sys2Proof/Tests/Slice0.lean ====
section
/-! SUPPORT. Tests on single steps, their expected values from spec/95_test_vectors.md (V-<n>) or from the rule named, and witnesses that the
hypotheses of the statements can be met. -/

namespace Sys2Proof.Tests

open Sys2Proof Sys2Proof.Machine

/-! ### Helpers -/

/-- LANES = 4, BASE = 1024. -/
def four : Params := ⟨3#16, 16⟩

/-- A block with LANES = 4 after reset, with OPA and OPB given. -/
def ready (a b : Word) : State := { State.atReset four with opa := a, opb := b }

/-- The same with lane l valid, holding (z, w). -/
def lively (l : Nat) (z : ZVal) (w : WVal) : State := (ready 0 0).setLane l ⟨z, w⟩

/-- The same with TV = 1. -/
def tabled (a b : Word) : State := { ready a b with tables := some builtTables }

/-- What a test looks at in an outcome. -/
def look {α : Type} (f : State → α) : Host.Outcome State Fault Refusal → Option α
  | .next s => some (f s)
  | _ => .none

/-- The fault of an outcome. -/
def faultOf : Host.Outcome State Fault Refusal → Option Fault
  | .fault f => some f
  | _ => .none

/-- RES0, RES1 and ERR. -/
def results (s : State) : Word × Word × BitVec 4 := (s.res0, s.res1, s.err.code)

/-! ### Decoding: every command's word, written out from 30_encoding.md R70 and R71 -/

theorem test_decode_mulmod1 : decode 0x0000000000000001#64 = .ok .mulmod1 := by decide
theorem test_decode_mulmod2 : decode 0x0000000000000002#64 = .ok .mulmod2 := by decide
theorem test_decode_stepz : decode 0x0000000012340003#64 = .ok (.stepz 0x1234) := by decide
theorem test_decode_stepw : decode 0x00000000FFFF0004#64 = .ok (.stepw 0xFFFF) := by decide
theorem test_decode_inittab : decode 0x0000000000000005#64 = .ok .inittab := by decide
theorem test_decode_treadz : decode 0x0000000000000006#64 = .ok .treadz := by decide
theorem test_decode_treadw : decode 0x0000000000000007#64 = .ok .treadw := by decide
theorem test_decode_seed : decode 0x0000000000030008#64 = .ok (.seed 3) := by decide
theorem test_decode_next : decode 0x0000000080000009#64 = .ok (.next 0x8000) := by decide
theorem test_decode_ldstate : decode 0x000000000002000A#64 = .ok (.ldstate 2) := by decide
theorem test_decode_rdstate : decode 0x000000000001000B#64 = .ok (.rdstate 1) := by decide

/-- V-24: a reserved bit, an unassigned operation code, a lane on a command without one. -/
theorem test_decode_illegal :
    decode 0x0000000000000109#64 = .error .reservedBits ∧ decode 0x8000000000000008#64 = .error .reservedBits ∧
    decode 0x000000000000000C#64 = .error .unassignedOpcode ∧ decode 0x00000000000000FF#64 = .error .unassignedOpcode ∧
    decode 0x0000000000000000#64 = .error .unassignedOpcode ∧
    decode 0x0000000000070005#64 = .error .laneOnLanelessCommand := by decide

/-- R79: a command is one 64-bit word, no fewer bytes. -/
theorem test_decode_short : decodeBytes [0x05#8] = .error .notOneWord := by decide

/-- R80: `cmd SEED 3` is 0x0000000000030008. -/
theorem test_encode_seed : encode (.seed 3) = 0x0000000000030008#64 := by decide

theorem test_decodeTableWord : decodeTableWord 64 0x000000000002000A = some (.ldstate 2) := by decide

/-! ### Well-formedness: an ill-formed term for the one check there is -/

theorem test_wf_lane_too_wide : (Instr.stepz 65536).wf = false ∧ (Instr.stepw 65536).wf = false ∧ (Instr.seed 65536).wf = false ∧
    (Instr.next 65536).wf = false ∧ (Instr.ldstate 65536).wf = false ∧ (Instr.rdstate 65536).wf = false := by decide

theorem test_wf_last_lane : (Instr.seed 65535).wf = true := by decide

/-! ### The commands -/

/-- V-9: the widest operands. -/
theorem test_mulmod1_widest :
    look results (exec .mulmod1 (ready 9007199254740991#64 9007199254740991#64)) = some (3902656308129331#64, 0#64, 0#4) := by decide

/-- V-9: 2^53 is too wide. -/
theorem test_mulmod1_operand : look results (exec .mulmod1 (ready 9007199254740992#64 1#64)) = some (0#64, 0#64, 5#4) := by decide

/-- V-10: the widest operands. -/
theorem test_mulmod2_widest : look results (exec .mulmod2 (ready 4294967295#64 4294967295#64)) = some (9#64, 0#64, 0#4) := by decide

/-- V-10: 2^32 is too wide. -/
theorem test_mulmod2_operand : look results (exec .mulmod2 (ready 4294967296#64 1#64)) = some (0#64, 0#64, 5#4) := by decide

/-- V-11: StepZ(M1 - 1) = M1 - A1. -/
theorem test_stepz :
    look (fun s => (s.res0, s.lane 3)) (exec (.stepz 3) (lively 3 5559060566555522#53 7#32)) =
      some (5559060533001091#64, some ⟨5559060533001091#53, 7#32⟩) := by decide

/-- V-12: StepW(M2 - 1) = M2 - A2. -/
theorem test_stepw :
    look (fun s => (s.res0, s.lane 3)) (exec (.stepw 3) (lively 3 7#53 2147483648#32)) =
      some (2147444276#64, some ⟨7#53, 2147444276#32⟩) := by decide

/-- V-25: NOSTATE on a lane that is not valid, LANE on one that does not exist. -/
theorem test_stepz_errors :
    look results (exec (.stepz 2) (lively 3 1#53 1#32)) = some (0#64, 0#64, 4#4) ∧
    look results (exec (.stepz 4) (lively 3 1#53 1#32)) = some (0#64, 0#64, 2#4) := by decide

/-- V-17, with the corners of the tables of V-8. -/
theorem test_inittab :
    look (fun s => (s.idleStatus, s.tables.map fun t => (t.tzCell 1 1, t.tzCell 10 31, t.twCell 10 31))) (exec .inittab (ready 0 0)) =
      some (2#64, some (5389913925505975, 2663859222374623, 195784390)) := by decide +kernel

/-- V-16. -/
theorem test_treadz : look results (exec .treadz (tabled 10#64 31#64)) = some (2663859222374623#64, 0#64, 0#4) := by decide +kernel

/-- V-16: never truncated. -/
theorem test_treadz_tindex : look results (exec .treadz (tabled 0x8000000000000000#64 0#64)) = some (0#64, 0#64, 9#4) := by
  decide +kernel

/-- V-16. -/
theorem test_treadw : look results (exec .treadw (tabled 1#64 1#64)) = some (1379575543#64, 0#64, 0#4) := by decide +kernel

/-- V-16: TV is checked first. -/
theorem test_treadw_notables : look results (exec .treadw (ready 11#64 99#64)) = some (0#64, 0#64, 3#4) := by decide

/-- V-14: all digits 31. -/
theorem test_seed :
    look (fun s => (s.res0, s.res1, s.lane 3)) (exec (.seed 3) (tabled 36028797018963967#64 36028797018963967#64)) =
      some (5065291318787002#64, 730155415#64, some ⟨5065291318787002#53, 730155415#32⟩) := by decide +kernel

/-- V-14: k = 32 and k1 = 31 differ in the row offset; V-25: RANGE. -/
theorem test_seed_rows :
    look results (exec (.seed 0) (tabled 32#64 31#64)) = some (5559060549778307#64, 1379575543#64, 0#4) ∧
    look results (exec (.seed 0) (tabled 0#64 36028797018963968#64)) = some (0#64, 0#64, 6#4) := by decide +kernel

/-- V-21: from (M1 - 1, M2 - 1). -/
theorem test_next :
    look (fun s => (s.res0, s.lane 0)) (exec (.next 0) (lively 0 5559060566555522#53 2147483648#32)) =
      some (1537518257#64, some ⟨5559060533001091#53, 2147444276#32⟩) := by decide

/-- V-18: the remainder is not negative. -/
theorem test_combine : combine 0 1 = 2147483647 ∧ combine 2147483648 12345 = 2147471303 ∧ combine 1 5559060566555522 = 1504003199 := by
  decide

/-- V-22: the largest state is accepted. -/
theorem test_ldstate :
    look (fun s => (s.err.code, s.lane 2)) (exec (.ldstate 2) (ready 5559060566555522#64 2147483648#64)) =
      some (0#4, some ⟨5559060566555522#53, 2147483648#32⟩) := by decide

/-- V-22: BADSTATE before ZERO. -/
theorem test_ldstate_errors :
    look results (exec (.ldstate 2) (ready 0#64 2147483649#64)) = some (0#64, 0#64, 7#4) ∧
    look results (exec (.ldstate 2) (ready 1#64 0#64)) = some (0#64, 0#64, 8#4) := by decide

/-- V-23. -/
theorem test_rdstate :
    look results (exec (.rdstate 1) (lively 1 2779530283277761#53 39373#32)) = some (2779530283277761#64, 39373#64, 0#4) := by decide

/-! ### The step and the window -/

/-- V-26: after an ILLEGAL command from reset, STATUS = 0x14. -/
theorem test_illegal_status :
    look State.idleStatus (step ((ready 0 0).withFetchWord 64 0)) = some 0x14#64 := by decide

/-- The first step after reset runs the word put there, in a block of any size. -/
theorem test_first_step_from_reset :
    step (State.reset.withFetchWord 64 0x000000000003000B) = exec (.rdstate 3) (State.reset.withFetchWord 64 0x000000000003000B) := by
  rfl

/-- R53: OPA = 0x0807060504030201 is stored with its low byte first. -/
theorem test_write_opa_bytes :
    look State.opa ((ready 0 0).access (.write 1024 [1#8, 2#8, 3#8, 4#8, 5#8, 6#8, 7#8, 8#8])) = some 0x0807060504030201#64 := by decide

/-- R53: CFG reads LANES with its low byte first. -/
theorem test_read_cfg_bytes :
    look State.returned ((ready 0 0).access (.read 1072 8)) = some [[4#8, 0#8, 0#8, 0#8, 0#8, 0#8, 0#8, 0#8]] := by decide

/-- R52: a 4-byte access, a misaligned one and one outside the window. -/
theorem test_bus_errors :
    faultOf ((ready 0 0).access (.read 1024 4)) = some .busError ∧ faultOf ((ready 0 0).access (.read 1028 8)) = some .busError ∧
    faultOf ((ready 0 0).access (.write 1088 (bytesOfWord 0#64))) = some .busError := by decide

/-- R230: the reset input clears TV and keeps the parameters. -/
theorem test_reset_input :
    look (fun s => (s.params, s.TV, s.busy, s.res0)) (step { tabled 1#64 1#64 with events := [.reset], busy := true, res0 := 9#64 }) =
      some (four, false, false, 0#64) := by decide

/-- R80: `cmd SEED 3` writes 0x0000000000030008 to CMD; one step latches it. -/
theorem test_cmd_line :
    look (fun s => (s.busy, s.pcmd)) (step { ready 0 0 with events := [four.cmd (.seed 3)] }) = some (true, 0x0000000000030008#64) := by
  decide

/-! ### Witnesses: the hypotheses of the statements can be met

Each theorem is named after its statement. LANES = 4, so lane 3 is the last lane and lane 4 the first that does not exist. -/

open Sys2Proof.Statements

/-- Tables that hold their powers by definition. -/
def powerTables : Tables where
  tz := Vector.ofFn fun i => Vector.ofFn fun j => BitVec.ofNat 53 (Config.A1 ^ (j.val * 32 ^ i.val) % Config.M1)
  tw := Vector.ofFn fun i => Vector.ofFn fun j => BitVec.ofNat 32 (Config.A2 ^ (j.val * 32 ^ i.val) % Config.M2)

theorem powerTables_right : powerTables.right := by
  intro i j
  constructor
  · simp [Tables.tzCell, powerTables, -BitVec.toNat_ofNat, toNat_ofNat_z (Nat.mod_lt _ (show 0 < Config.M1 by decide))]
  · simp [Tables.twCell, powerTables, -BitVec.toNat_ofNat, toNat_ofNat_w (Nat.mod_lt _ (show 0 < Config.M2 by decide))]

/-- A block with lane 3 valid, right tables and the given operands. -/
def full (a b : Word) : State := { lively 3 1#53 1#32 with opa := a, opb := b, tables := some powerTables }

theorem witness_DecodeInvertsEncode : (Instr.next 65535).wf = true ∧ Instr.mulmod1.wf = true := by decide

theorem witness_EncodeInvertsDecode : decode 0x00000000FFFF000B#64 = .ok (.rdstate 65535) := by decide

/-- The pending word w, the core agent's turn next. -/
def pending (w : Word) : State := { ready 0 0 with pcmd := w, busy := true, events := [.core] }

theorem witness_IllegalWordsOnlyReport :
    (coreNext (pending 0x100#64) [] ∧ (pending 0x100#64).busy = true ∧ rsv0Field (pending 0x100#64).pcmd ≠ 0#8) ∧
    rsv1Field (pending 0x8000000000000008#64).pcmd ≠ 0#32 ∧
    ((opcField (pending 0x10007#64).pcmd).toNat ∈ [0x01, 0x02, 0x05, 0x06, 0x07] ∧ laneField (pending 0x10007#64).pcmd ≠ 0#16) ∧
    (opcField (pending 0x0#64).pcmd).toNat = 0x00 ∧ 0x0C ≤ (opcField (pending 0xC#64).pcmd).toNat := by
  simp only [coreNext]; decide

theorem witness_StepRunsThePendingCommand :
    coreNext (pending 0x5#64) [] ∧ (pending 0x5#64).busy = true ∧ decode (pending 0x5#64).pcmd = .ok .inittab := by
  simp only [coreNext]; decide

theorem witness_CoreTurnNeedsBusy : coreNext (ready 0 0) [] ∧ (ready 0 0).busy = false := by simp only [coreNext]; decide

theorem witness_ResetInputAbandonsTheCommand :
    ({ pending 0x5#64 with events := [.reset] } : State).events = .reset :: [] := rfl

theorem full_inv (a b : Word) : (full a b).Inv where
  lanesCanonical := rfl
  lanesExist := by
    show ∀ p ∈ [(3, (⟨1#53, 1#32⟩ : Lane))], p.1 < four.LANES
    decide
  contextsInRange := by
    intro l c h
    have h' : laneLookup [(3, ⟨1#53, 1#32⟩)] l = some c := h
    simp only [laneLookup] at h'
    split at h'
    · cases h'; exact ⟨by decide, by decide, by decide, by decide⟩
    · cases h'
  tablesRight := by
    intro t h
    have ht : powerTables = t := by simpa [full] using h
    exact ht ▸ powerTables_right
  stickyCoversErr := by
    intro h
    exact absurd rfl h

theorem witness_StepKeepsTheInvariant : (full 0 0).Inv ∧ step (full 0 0) = .next (full 0 0) := ⟨full_inv 0 0, rfl⟩

theorem witness_StepKeepsTheParameters : step (full 0 0) = .next (full 0 0) := rfl

theorem witness_OnlyResetClearsValidBits :
    (∀ rest, (full 0 0).events ≠ .reset :: rest) ∧ step (full 0 0) = .next (full 0 0) ∧ (full 0 0).TV = true ∧ (full 0 0).V 3 = true :=
  ⟨by simp [full, lively, ready, State.setLane], rfl, rfl, rfl⟩

/-- A pending word with the operation code of w and a lane it may not have: for the commands without a lane. -/
def strayLane (w : Word) : Prop :=
  (pending (w + 0x10000#64)).busy = true ∧ opcField (pending (w + 0x10000#64)).pcmd = opcField w ∧ (pending (w + 0x10000#64)).pcmd ≠ w

theorem witness_hasOneWord : strayLane 0x1#64 ∧ strayLane 0x2#64 ∧ strayLane 0x5#64 ∧ strayLane 0x6#64 ∧ strayLane 0x7#64 := by
  simp only [strayLane]; decide

/-- A pending word with the operation code opc and reserved bits set: for the commands with a lane. -/
def strayBits (opc : Nat) : Prop :=
  let w := BitVec.ofNat 64 (opc + 0x100)
  (pending w).busy = true ∧ (opcField (pending w).pcmd).toNat = opc ∧ rsv0Field (pending w).pcmd ≠ 0#8

theorem witness_hasLaneWords : strayBits 0x3 ∧ strayBits 0x4 ∧ strayBits 0x8 ∧ strayBits 0x9 ∧ strayBits 0xA ∧ strayBits 0xB := by
  simp only [strayBits]; decide

theorem witness_Mulmod1FollowsItsRule :
    ((ready 9007199254740991#64 0#64).opa.toNat < 2 ^ 53 ∧ (ready 9007199254740991#64 0#64).opb.toNat < 2 ^ 53) ∧
    2 ^ 53 ≤ (ready 9007199254740992#64 0#64).opa.toNat := by decide

theorem witness_Mulmod2FollowsItsRule :
    ((ready 4294967295#64 0#64).opa.toNat < 2 ^ 32 ∧ (ready 4294967295#64 0#64).opb.toNat < 2 ^ 32) ∧
    2 ^ 32 ≤ (ready 0#64 4294967296#64).opb.toNat := by decide

/-- For STEPZ, STEPW, NEXT and RDSTATE: the last lane valid, the first lane that does not exist, a lane that is not valid. -/
theorem witness_laneCommands :
    (3 < (lively 3 1#53 1#32).params.LANES ∧ (lively 3 1#53 1#32).lane 3 = some ⟨1#53, 1#32⟩) ∧
    (lively 3 1#53 1#32).params.LANES ≤ 4 ∧
    (2 < (lively 3 1#53 1#32).params.LANES ∧ (lively 3 1#53 1#32).V 2 = false) := by decide

theorem witness_InittabFollowsItsRule : (full 0 0).tables = some powerTables ∧ powerTables.right := ⟨rfl, powerTables_right⟩

/-- For TREADZ and TREADW: the last cell, no tables, the first row and the first column that do not exist. -/
theorem witness_tableReads :
    ((full 10#64 31#64).tables = some powerTables ∧ (full 10#64 31#64).opa.toNat = (10 : Fin 11).val ∧
      (full 10#64 31#64).opb.toNat = (31 : Fin 32).val) ∧
    (ready 0 0).TV = false ∧
    ((full 11#64 0#64).TV = true ∧ 10 < (full 11#64 0#64).opa.toNat) ∧
    ((full 0#64 32#64).TV = true ∧ 31 < (full 0#64 32#64).opb.toNat) :=
  ⟨⟨rfl, rfl, rfl⟩, rfl, ⟨rfl, by decide⟩, rfl, by decide⟩

theorem witness_SeedJumpsBothGenerators :
    (3 < (full 36028797018963967#64 0#64).params.LANES ∧ (full 36028797018963967#64 0#64).tables = some powerTables ∧
      (full 36028797018963967#64 0#64).opa.toNat < 2 ^ 55 ∧ (full 36028797018963967#64 0#64).opb.toNat < 2 ^ 55) ∧
    (ready 0 0).params.LANES ≤ 4 ∧
    (3 < (ready 0 0).params.LANES ∧ (ready 0 0).TV = false) ∧
    (3 < (full 36028797018963968#64 0#64).params.LANES ∧ (full 36028797018963968#64 0#64).TV = true ∧
      2 ^ 55 ≤ (full 36028797018963968#64 0#64).opa.toNat) :=
  ⟨⟨by decide, rfl, by decide, by decide⟩, by decide, by decide, by decide, rfl, by decide⟩

theorem witness_LdstateLoadsTheContext :
    (3 < (ready 5559060566555522#64 2147483648#64).params.LANES ∧ 0 < (ready 5559060566555522#64 2147483648#64).opa.toNat ∧
      (ready 5559060566555522#64 2147483648#64).opa.toNat < Config.M1 ∧ 0 < (ready 5559060566555522#64 2147483648#64).opb.toNat ∧
      (ready 5559060566555522#64 2147483648#64).opb.toNat < Config.M2) ∧
    (ready 0 0).params.LANES ≤ 4 ∧
    (Config.M1 ≤ (ready 5559060566555523#64 0#64).opa.toNat ∧ Config.M2 ≤ (ready 0#64 2147483649#64).opb.toNat) ∧
    ((ready 0#64 1#64).opa.toNat = 0 ∧ (ready 0#64 1#64).opb.toNat < Config.M2 ∧ (ready 1#64 0#64).opb.toNat = 0) := by decide

theorem witness_CompletionRecordsTheCode :
    (coreNext (pending 0x6#64) [] ∧ (pending 0x6#64).busy = true ∧ decode (pending 0x6#64).pcmd ≠ .ok .inittab) ∧
    look State.sticky (step { ready 0 0 with events := [.reset], sticky := true }) = some false ∧
    (pending 0x5#64).TV = false ∧ look State.TV (step (pending 0x5#64)) = some true := by
  simp only [coreNext]; decide

theorem witness_FailingCommandWritesOnlyStatus :
    (pending 0x6#64).busy = true ∧ (pending 0x6#64).coreTurn = .next ((pending 0x6#64).raiseError .notables) ∧
      ((pending 0x6#64).raiseError .notables).err ≠ .none := ⟨rfl, rfl, by decide⟩

theorem witness_FirstFailingCheckGivesTheCode : (pending 0x40008#64).busy = true ∧ codeOf (pending 0x40008#64) = .lane := by decide

theorem witness_CommandTouchesOnlyItsLane :
    exec (.rdstate 3) (lively 3 1#53 1#32) = .next (((lively 3 1#53 1#32).setRes0 1).setRes1 1).finish ∧
    exec (.rdstate 3) ((lively 3 1#53 1#32).setLane 0 ⟨2#53, 2#32⟩) =
      .next ((((lively 3 1#53 1#32).setLane 0 ⟨2#53, 2#32⟩).setRes0 1).setRes1 1).finish ∧
    (lively 3 1#53 1#32).setLane 0 ⟨2#53, 2#32⟩ =
      { lively 3 1#53 1#32 with lanes := ((lively 3 1#53 1#32).setLane 0 ⟨2#53, 2#32⟩).lanes } ∧
    ((lively 3 1#53 1#32).setLane 0 ⟨2#53, 2#32⟩).lane 3 = (lively 3 1#53 1#32).lane 3 := ⟨rfl, rfl, rfl, rfl⟩

theorem witness_IgnoredOperandsHaveNoEffect :
    exec (.rdstate 3) (lively 3 1#53 1#32) = .next (((lively 3 1#53 1#32).setRes0 1).setRes1 1).finish := rfl

theorem witness_EarlierErrorsHaveNoEffect :
    exec .treadz (full 1#64 1#64) = .next ((full 1#64 1#64).setRes0 (powerTables.tzCell 1 1)).finish := rfl

theorem witness_CommandsNeverWriteOperands :
    exec .treadz (ready 1#64 1#64) = .next ((ready 1#64 1#64).raiseError .notables) := rfl

/-- A block whose next event is the access a. -/
def asked (busy : Bool) (a : Access) : State := { ready 7#64 9#64 with busy := busy, events := [.host a] }

theorem witness_OnlyAlignedEightByteAccesses :
    (asked false (.read 1080 8)).accepts (.read 1080 8) ∧ ¬ (asked false (.read 1081 8)).accepts (.read 1081 8) := by
  refine ⟨⟨rfl, 7, by decide, rfl⟩, ?_⟩
  rintro ⟨_, n, _, h⟩
  simp [Access.addr, asked, ready, State.atReset, four, Params.BASE] at h
  omega

theorem witness_OperandRegistersReadBack :
    let s (off : Nat) : State := { ready 0 0 with events := [.host (.write (1024 + off) (bytesOfWord 5#64)), .host (.read (1024 + off) 8)] }
    (s 0).busy = false ∧ (s 0).params.BASE = 1024 ∧ (s 8).busy = false ∧ (s 8).params.BASE = 1024 := by decide

theorem witness_IdleReadAnswersTheMappedRegister :
    (asked false (.read (1024 + 8 * 7) 8)).busy = false ∧ (asked false (.read (1024 + 8 * 7) 8)).params.BASE = 1024 ∧
    (asked false (.read (1024 + 8 * 0) 8)).opa = 7#64 := by decide

theorem witness_ReadOnlyRegistersIgnoreWrites :
    (bytesOfWord 1#64).length = 8 ∧
    (asked true (.write (1024 + 0x38) (bytesOfWord 1#64))).events =
      .host (.write ((asked true (.write (1024 + 0x38) (bytesOfWord 1#64))).params.BASE + 0x38) (bytesOfWord 1#64)) :: [] ∧
    (asked true (.read (1024 + 0x38) 8)).events =
      .host (.read ((asked true (.read (1024 + 0x38) 8)).params.BASE + 0x38) 8) :: [] := ⟨by decide, rfl, rfl⟩

theorem witness_ReadsHaveNoSideEffects :
    let s : State := { ready 0 0 with events := [.host (.read 1048 8), .host (.read 1048 8)] }
    let b : State := { ready 7#64 0 with busy := true, events := [.host (.read 1024 8), .host (.read 1024 8)] }
    (s.busy = false ∧ look State.returned (step s) = some [bytesOfWord 0#64]) ∧
    (b.busy = true ∧ 1024 ≠ b.params.BASE + 0x18 ∧ look State.returned (step b) = some [bytesOfWord 7#64]) := by decide

theorem witness_CommandWriteLatchesTheWord :
    (asked false (.write (1024 + 0x10) (bytesOfWord 5#64))).busy = false ∧
    (asked false (.write (1024 + 0x10) (bytesOfWord 5#64))).params.BASE = 1024 := by decide

theorem witness_BusyProtocolViolationsFault :
    (asked true (.write (1024 + 0x10) (bytesOfWord 5#64))).busy = true ∧
    (asked true (.read (1024 + 0x28) 8)).busy = true ∧ (asked true (.read (1024 + 0x28) 8)).params.BASE = 1024 := by decide

/-- R28, R233: OPA and OPB are read while BUSY = 1. -/
theorem test_read_operands_while_busy :
    look State.returned (step (asked true (.read 1024 8))) = some [bytesOfWord 7#64] ∧
    look State.returned (step (asked true (.read 1032 8))) = some [bytesOfWord 9#64] := by decide

/-- The first and the last offset whose answer the statement names, and a write that the block ignores. -/
theorem witness_OtherAccessesWhileBusyAreHarmless_clauses :
    (asked true (.read (1024 + 8 * 0) 8)).accepts (.read (1024 + 8 * 0) 8) ∧
    ¬ (asked true (.read (1024 + 8 * 0) 8)).breaksBusyProtocol (.read (1024 + 8 * 0) 8) ∧
    (asked true (.read (1024 + 8 * 7) 8)).accepts (.read (1024 + 8 * 7) 8) ∧
    ¬ (asked true (.read (1024 + 8 * 7) 8)).breaksBusyProtocol (.read (1024 + 8 * 7) 8) ∧
    (asked true (.write (1024 + 0x18) (bytesOfWord 1#64))).accepts (.write (1024 + 0x18) (bytesOfWord 1#64)) ∧
    ¬ (asked true (.write (1024 + 0x18) (bytesOfWord 1#64))).breaksBusyProtocol (.write (1024 + 0x18) (bytesOfWord 1#64)) := by
  refine ⟨⟨rfl, 0, by decide, rfl⟩, ?_, ⟨rfl, 7, by decide, rfl⟩, ?_, ⟨rfl, 3, by decide, rfl⟩, ?_⟩ <;>
    simp [State.breaksBusyProtocol, asked, ready, State.atReset, four, Params.BASE]

theorem witness_OtherAccessesWhileBusyAreHarmless :
    (asked true (.read 1040 8)).busy = true ∧ (asked true (.read 1040 8)).accepts (.read 1040 8) ∧
    ¬ (asked true (.read 1040 8)).breaksBusyProtocol (.read 1040 8) := by
  refine ⟨rfl, ⟨rfl, 2, by decide, rfl⟩, ?_⟩
  rintro ⟨_, h⟩
  simp [asked, ready, State.atReset, four, Params.BASE] at h

theorem witness_StatusReadShowsBusy :
    (asked true (.read (1024 + 0x18) 8)).busy = true ∧ (asked false (.read (1024 + 0x18) 8)).busy = false ∧
    (asked true (.read (1024 + 0x18) 8)).params.BASE = 1024 := by decide

theorem witness_ConfigurationRegisterIsLanes :
    (asked false (.read (1024 + 0x30) 8)).params.BASE = 1024 ∧ (asked false (.read (1024 + 0x30) 8)).params.LANES = 4 := by decide

theorem witness_CallCompletesAfterEveryDelay :
    (Instr.next 3).wf = true ∧ (ready 0 0).busy = false ∧
    ({ ready 0 0 with events := four.call (.next 3) 1#64 2#64 0 } : State).events =
      (ready 0 0).params.call (.next 3) 1#64 2#64 0 ++ [] := by decide

theorem witness_SchrageGivesStepZ : 5559060566555522 < Config.M1 ∧ 0 < Config.M1 := by decide

theorem witness_StepsKeepNonzero : 5559060566555522 < Config.M1 ∧ 2147483648 < Config.M2 := by decide

theorem witness_JumpsHaveTheClosedForms : powerTables.right ∧ 2 ^ 55 - 1 < 2 ^ 55 := ⟨powerTables_right, by decide⟩

theorem witness_JumpsAdvanceWithTheSteps : powerTables.right ∧ 2 ^ 55 - 33 + 32 < 2 ^ 55 := ⟨powerTables_right, by decide⟩

theorem witness_SeedThenNextsFollowTheStream :
    3 < (full 5#64 5#64).params.LANES ∧ (full 5#64 5#64).tables = some powerTables ∧ powerTables.right ∧
    (full 5#64 5#64).opa.toNat < 2 ^ 55 ∧ (full 5#64 5#64).opb.toNat < 2 ^ 55 :=
  ⟨by decide, rfl, powerTables_right, by decide, by decide⟩

theorem witness_BytesAreLittleEndian : (bytesOfWord 1#64).length = 8 ∧ 7 < 8 := by decide

theorem witness_DigitsRebuildTheIndex : 2 ^ 55 - 1 < 2 ^ 55 ∧ 10 < 11 ∧ 4 < 5 := by decide

theorem witness_JumpsAreUnits : powerTables.right ∧ 0 < 2 ^ 55 := ⟨powerTables_right, by decide⟩

theorem witness_ThirtyTwoStepsOfZAreThirtyTwoIndices : powerTables.right ∧ 0 + 32 < 2 ^ 55 := ⟨powerTables_right, by decide⟩

theorem witness_CombineIsTheMaskedDifference : 2147483648 < Config.M2 ∧ 5559060566555522 < Config.M1 ∧ 31 ≤ 31 := by decide

theorem witness_periods :
    5559060566555522 < Config.M1 ∧ Nat.Coprime 5559060566555522 3 ∧ (3 ^ 32 * 2 < Config.M1 ∧ Nat.Coprime 2 3) ∧
    2147483648 < Config.M2 ∧ Nat.Coprime 2147483648 Config.M2 ∧ (3 : Nat) < Config.M2 := by decide

theorem witness_NextStaysInRangeAndRepeats :
    3 < (lively 3 1#53 1#32).params.LANES ∧ (lively 3 1#53 1#32).lane 3 = some ⟨1#53, 1#32⟩ ∧ Lane.inRange ⟨1#53, 1#32⟩ ∧
    exec (.next 3) (lively 3 1#53 1#32) =
      .next (((lively 3 1#53 1#32).setLane 3 ⟨33554432#53, 39373#32⟩).setRes0 2113968589).finish :=
  ⟨by decide, rfl, ⟨by decide, by decide, by decide, by decide⟩, rfl⟩

end Sys2Proof.Tests
end

section
/-! PROOF. A command is confined to the lane it names (10_state.md R36). Two facts say so, each carried through the operations every command
is made of: what the command can do to the list of lane contexts (`exec_lanes`), and that two runs which agree outside the other lanes still
agree after it (`exec_agree`). -/

namespace Sys2Proof.Machine

open Sys2Proof.Statements

/-! ### What a command writes -/

/-- A command's pseudocode, where it succeeds, leaves the lane contexts of s as they are or sets the one that o names. -/
def WritesAtMost (o : Option Nat) (s : State) (r : Except ErrCode State) : Prop :=
  ∀ u, r = .ok u → u.lanes = s.lanes ∨ ∃ l c, o = some l ∧ u.lanes = laneInsert s.lanes l c

namespace WritesAtMost

variable {o : Option Nat} {s u : State}

theorem of_lanes_eq (h : u.lanes = s.lanes) : WritesAtMost o s (.ok u) := by
  rintro _ ⟨⟩
  exact .inl h

theorem of_lanes_insert {l : Nat} (c : Lane) (h : u.lanes = laneInsert s.lanes l c) : WritesAtMost (some l) s (.ok u) := by
  rintro _ ⟨⟩
  exact .inr ⟨l, c, rfl, h⟩

theorem require {r : Except ErrCode State} {ok : Bool} {e : ErrCode} (h : WritesAtMost o s r) :
    WritesAtMost o s (require ok e r) :=
  fun u hu => h u (require_eq_ok.mp hu).2

theorem checkLane {r : Except ErrCode State} {l : Nat} (h : WritesAtMost o s r) : WritesAtMost o s (s.checkLane l r) :=
  h.require

theorem withTables {rest : Tables → Except ErrCode State} (h : ∀ t, WritesAtMost o s (rest t)) :
    WritesAtMost o s (s.withTables rest) := by
  intro u hu
  obtain ⟨t, -, ht⟩ := State.withTables_eq_ok.mp hu
  exact h t u ht

theorem withContext {l : Nat} {rest : Lane → Except ErrCode State} (h : ∀ c, WritesAtMost o s (rest c)) :
    WritesAtMost o s (s.withContext l rest) := by
  intro u hu
  obtain ⟨c, -, hc⟩ := State.withContext_eq_ok.mp hu
  exact h c u hc

theorem withIndex {ij : Option (Fin 11 × Fin 32)} {rest : Fin 11 → Fin 32 → Except ErrCode State}
    (h : ∀ i j, WritesAtMost o s (rest i j)) : WritesAtMost o s (withIndex ij rest) := by
  intro u hu
  obtain ⟨i, j, -, hij⟩ := withIndex_eq_ok.mp hu
  exact h i j u hij

/-- Completion, with or without an error, leaves the lane contexts as the pseudocode left them. -/
theorem perform {r : Except ErrCode State} {t : State} (h : s.perform r = .next t) (hr : WritesAtMost o s r) :
    t.lanes = s.lanes ∨ ∃ l c, o = some l ∧ t.lanes = laneInsert s.lanes l c := by
  rcases State.perform_cases h with ⟨u, hu, rfl⟩ | ⟨e, -, rfl⟩
  · simpa using hr u hu
  · exact .inl (State.raiseError_lanes s e)

end WritesAtMost

/-- All that a command can do to the lane contexts: nothing, or set that of the lane it names (10_state.md R36). -/
theorem exec_lanes {i : Instr} {s t : State} (h : exec i s = .next t) :
    t.lanes = s.lanes ∨ ∃ l c, laneOf i = some l ∧ t.lanes = laneInsert s.lanes l c := by
  cases i with
  | mulmod1 => exact WritesAtMost.perform h (.require (.of_lanes_eq rfl))
  | mulmod2 => exact WritesAtMost.perform h (.require (.of_lanes_eq rfl))
  | stepz l => exact WritesAtMost.perform h (.checkLane (.withContext fun _ => .of_lanes_insert _ rfl))
  | stepw l => exact WritesAtMost.perform h (.checkLane (.withContext fun _ => .of_lanes_insert _ rfl))
  | inittab => exact WritesAtMost.perform h (.of_lanes_eq rfl)
  | treadz => exact WritesAtMost.perform h (.withTables fun _ => .withIndex fun _ _ => .of_lanes_eq rfl)
  | treadw => exact WritesAtMost.perform h (.withTables fun _ => .withIndex fun _ _ => .of_lanes_eq rfl)
  | seed l => exact WritesAtMost.perform h (.checkLane (.withTables fun _ => .require (.of_lanes_insert _ rfl)))
  | next l => exact WritesAtMost.perform h (.checkLane (.withContext fun _ => .of_lanes_insert _ rfl))
  | ldstate l => exact WritesAtMost.perform h (.checkLane (.require (.require (.of_lanes_insert _ rfl))))
  | rdstate l => exact WritesAtMost.perform h (.checkLane (.withContext fun _ => .of_lanes_eq rfl))

/-- A command leaves every lane it does not name as it was (10_state.md R36). -/
theorem exec_lane_other {i : Instr} {s t : State} {k : Nat} (h : exec i s = .next t) (hk : laneOf i ≠ some k) :
    t.lane k = s.lane k := by
  unfold State.lane
  rcases exec_lanes h with hs | ⟨l, c, hl, hs⟩
  · rw [hs]
  · have hne : k ≠ l := by rintro rfl; exact hk hl
    rw [hs, laneLookup_laneInsert_other _ _ hne]

/-! ### What a command reads -/

/-- s' is s with other lane contexts, that of the lane o names being the same. -/
def AgreeOn (o : Option Nat) (s s' : State) : Prop :=
  ∃ ls, s' = { s with lanes := ls } ∧ ∀ l, o = some l → laneLookup ls l = s.lane l

theorem agreeOn_iff {o : Option Nat} {s s' : State} :
    AgreeOn o s s' ↔ s' = { s with lanes := s'.lanes } ∧ ∀ l, o = some l → s'.lane l = s.lane l := by
  constructor
  · rintro ⟨ls, rfl, hl⟩
    exact ⟨rfl, hl⟩
  · rintro ⟨hs, hl⟩
    exact ⟨s'.lanes, hs, hl⟩

/-- Two runs of a command's pseudocode succeed in states that agree, or raise the same error. -/
inductive ResultsAgree (o : Option Nat) : Except ErrCode State → Except ErrCode State → Prop
  | ok {u u' : State} (h : AgreeOn o u u') : ResultsAgree o (.ok u) (.ok u')
  | error (e : ErrCode) : ResultsAgree o (.error e) (.error e)

namespace AgreeOn

variable {o : Option Nat} {s s' : State}

/-! The parts of the state that a command reads beside its lane. -/

theorem params (h : AgreeOn o s s') : s'.params = s.params := by
  obtain ⟨ls, rfl, -⟩ := h; rfl

theorem tables (h : AgreeOn o s s') : s'.tables = s.tables := by
  obtain ⟨ls, rfl, -⟩ := h; rfl

theorem opa (h : AgreeOn o s s') : s'.opa = s.opa := by
  obtain ⟨ls, rfl, -⟩ := h; rfl

theorem opb (h : AgreeOn o s s') : s'.opb = s.opb := by
  obtain ⟨ls, rfl, -⟩ := h; rfl

theorem opaNat (h : AgreeOn o s s') : s'.opaNat = s.opaNat := congrArg BitVec.toNat h.opa

theorem opbNat (h : AgreeOn o s s') : s'.opbNat = s.opbNat := congrArg BitVec.toNat h.opb

theorem operandsFit (h : AgreeOn o s s') (n : Nat) : s'.operandsFit n = s.operandsFit n := by
  simp only [State.operandsFit, h.opaNat, h.opbNat]

theorem operandsReduced (h : AgreeOn o s s') : s'.operandsReduced = s.operandsReduced := by
  simp only [State.operandsReduced, h.opaNat, h.opbNat]

theorem operandsNonzero (h : AgreeOn o s s') : s'.operandsNonzero = s.operandsNonzero := by
  simp only [State.operandsNonzero, h.opaNat, h.opbNat]

theorem tableIndex (h : AgreeOn o s s') : s'.tableIndex = s.tableIndex := by
  simp only [State.tableIndex, h.opaNat, h.opbNat]

theorem lane {l : Nat} (h : AgreeOn (some l) s s') : s'.lane l = s.lane l :=
  (agreeOn_iff.mp h).2 l rfl

/-! The writes a command makes. -/

theorem setRes0 (h : AgreeOn o s s') {v v' : Nat} (hv : v' = v) : AgreeOn o (s.setRes0 v) (s'.setRes0 v') := by
  subst hv
  obtain ⟨ls, rfl, hl⟩ := h
  exact ⟨ls, rfl, hl⟩

theorem setRes1 (h : AgreeOn o s s') {v v' : Nat} (hv : v' = v) : AgreeOn o (s.setRes1 v) (s'.setRes1 v') := by
  subst hv
  obtain ⟨ls, rfl, hl⟩ := h
  exact ⟨ls, rfl, hl⟩

theorem setTables (h : AgreeOn o s s') (T : Option Tables) : AgreeOn o { s with tables := T } { s' with tables := T } := by
  obtain ⟨ls, rfl, hl⟩ := h
  exact ⟨ls, rfl, hl⟩

theorem setLane {l : Nat} (h : AgreeOn (some l) s s') {c c' : Lane} (hc : c' = c) :
    AgreeOn (some l) (s.setLane l c) (s'.setLane l c') := by
  subst hc
  obtain ⟨ls, rfl, -⟩ := h
  refine ⟨laneInsert ls l c', rfl, ?_⟩
  rintro _ ⟨⟩
  rw [laneLookup_laneInsert_same, State.setLane_lane_same]

theorem complete (h : AgreeOn o s s') (e : ErrCode) : AgreeOn o (s.complete e) (s'.complete e) := by
  obtain ⟨ls, rfl, hl⟩ := h
  exact ⟨ls, rfl, hl⟩

/-! The checks a command makes. -/

theorem checkLane {r r' : Except ErrCode State} (h : AgreeOn o s s') (l : Nat) (hr : ResultsAgree o r r') :
    ResultsAgree o (s.checkLane l r) (s'.checkLane l r') := by
  unfold State.checkLane require
  rw [h.params]
  split
  · exact hr
  · exact .error .lane

theorem withTables {rest rest' : Tables → Except ErrCode State} (h : AgreeOn o s s')
    (hr : ∀ t, ResultsAgree o (rest t) (rest' t)) : ResultsAgree o (s.withTables rest) (s'.withTables rest') := by
  unfold State.withTables
  rw [h.tables]
  cases s.tables with
  | none => exact .error .notables
  | some t => exact hr t

theorem withContext {l : Nat} {rest rest' : Lane → Except ErrCode State} (h : AgreeOn (some l) s s')
    (hr : ∀ c, ResultsAgree (some l) (rest c) (rest' c)) :
    ResultsAgree (some l) (s.withContext l rest) (s'.withContext l rest') := by
  unfold State.withContext
  rw [h.lane]
  cases s.lane l with
  | none => exact .error .nostate
  | some c => exact hr c

/-- Completion, with or without an error, keeps two runs in agreement. -/
theorem perform {r r' : Except ErrCode State} {t t' : State} (h : AgreeOn o s s') (ht : s.perform r = .next t)
    (ht' : s'.perform r' = .next t') (hr : ResultsAgree o r r') : AgreeOn o t t' := by
  rw [State.perform_eq_next] at ht ht'
  subst ht ht'
  cases hr with
  | ok hu => exact hu.complete .none
  | error e => exact h.complete e

end AgreeOn

namespace ResultsAgree

variable {o : Option Nat}

theorem require {r r' : Except ErrCode State} {ok ok' : Bool} (e : ErrCode) (hok : ok' = ok) (hr : ResultsAgree o r r') :
    ResultsAgree o (require ok e r) (require ok' e r') := by
  subst hok
  cases ok' with
  | false => exact .error e
  | true => exact hr

theorem withIndex {ij ij' : Option (Fin 11 × Fin 32)} {rest rest' : Fin 11 → Fin 32 → Except ErrCode State} (hij : ij' = ij)
    (hr : ∀ i j, ResultsAgree o (rest i j) (rest' i j)) : ResultsAgree o (withIndex ij rest) (withIndex ij' rest') := by
  subst hij
  rcases ij' with _ | ⟨i, j⟩
  · exact .error .tindex
  · exact hr i j

end ResultsAgree

/-- A command takes two states that agree on all but the other lanes to two that do: it reads no other lane (10_state.md R36). -/
theorem exec_agree {i : Instr} {s s' t t' : State} (h : AgreeOn (laneOf i) s s') (ht : exec i s = .next t)
    (ht' : exec i s' = .next t') : AgreeOn (laneOf i) t t' := by
  cases i with
  | mulmod1 => exact h.perform ht ht' (.require _ (h.operandsFit 53) (.ok (h.setRes0 (by rw [h.opaNat, h.opbNat]))))
  | mulmod2 => exact h.perform ht ht' (.require _ (h.operandsFit 32) (.ok (h.setRes0 (by rw [h.opaNat, h.opbNat]))))
  | stepz l => exact h.perform ht ht' (h.checkLane l (h.withContext fun _ => .ok ((h.setLane rfl).setRes0 rfl)))
  | stepw l => exact h.perform ht ht' (h.checkLane l (h.withContext fun _ => .ok ((h.setLane rfl).setRes0 rfl)))
  | inittab => exact h.perform ht ht' (.ok (h.setTables _))
  | treadz => exact h.perform ht ht' (h.withTables fun _ => .withIndex h.tableIndex fun _ _ => .ok (h.setRes0 rfl))
  | treadw => exact h.perform ht ht' (h.withTables fun _ => .withIndex h.tableIndex fun _ _ => .ok (h.setRes0 rfl))
  | seed l =>
    exact h.perform ht ht' (h.checkLane l (h.withTables fun _ => .require _ (h.operandsFit Config.idxBits)
      (.ok (((h.setLane (by rw [h.opaNat, h.opbNat])).setRes0 (by rw [h.opaNat])).setRes1 (by rw [h.opbNat])))))
  | next l => exact h.perform ht ht' (h.checkLane l (h.withContext fun _ => .ok ((h.setLane rfl).setRes0 rfl)))
  | ldstate l =>
    exact h.perform ht ht' (h.checkLane l (.require _ h.operandsReduced (.require _ h.operandsNonzero
      (.ok (h.setLane (by rw [h.opaNat, h.opbNat]))))))
  | rdstate l => exact h.perform ht ht' (h.checkLane l (h.withContext fun _ => .ok ((h.setRes0 rfl).setRes1 rfl)))

/-- Settles O29: a command writes no other lane by `exec_lane_other`, and reads none by `exec_agree`. -/
theorem commandTouchesOnlyItsLane : Obligations.CommandTouchesOnlyItsLane := by
  unfold Obligations.CommandTouchesOnlyItsLane
  intro i s s' t t' ht ht'
  refine ⟨fun k hk => exec_lane_other ht hk, fun hs hl => ?_⟩
  exact agreeOn_iff.mp (exec_agree (agreeOn_iff.mpr ⟨hs, hl⟩) ht ht')

end Sys2Proof.Machine
end

section
/-! PROOF. The CFG register holds LANES and cannot be written (10_state.md R34). -/

namespace Sys2Proof.Machine

/-! ### The step of a host access that reaches a register -/

/-- An 8-byte read at a register's offset reads that register, one event later. -/
theorem step_host_read {s : State} {rest : List Event} (r : Reg)
    (h : s.events = .host (.read (s.params.BASE + r.offset) 8) :: rest) :
    step s = State.readReg { s with events := rest } r := by
  have hr : State.target { s with events := rest } (s.params.BASE + r.offset) 8 = some r := State.target_offset _ r
  simp only [step, h, State.happen, State.access, hr]

/-- An 8-byte write at a register's offset writes that register, one event later. -/
theorem step_host_write {s : State} {rest : List Event} {data : List Byte} (r : Reg) (hd : data.length = 8)
    (h : s.events = .host (.write (s.params.BASE + r.offset) data) :: rest) :
    step s = State.writeReg { s with events := rest } r (wordOfBytes data) := by
  have hr : State.target { s with events := rest } (s.params.BASE + r.offset) 8 = some r := State.target_offset _ r
  simp only [step, h, State.happen, State.access, hd, hr]

/-! ### The value of CFG -/

/-- LANES is from 1 to 65536 (00_scope.md R7). -/
theorem Params.LANES_bounds (p : Params) : 1 ≤ p.LANES ∧ p.LANES ≤ 65536 := by
  have := p.lastLane.isLt
  unfold Params.LANES
  omega

/-- The 64 bits of CFG keep LANES whole. -/
theorem State.cfg_toNat (s : State) : s.cfg.toNat = s.params.LANES := by
  have := s.params.LANES_bounds
  rw [State.cfg, BitVec.toNat_ofNat]
  omega

/-- Settles O42: a read answers the word `State.cfg`, which `State.cfg_toNat` and the bounds of LANES describe; a write reaches a
register that ignores it. -/
theorem configurationRegisterIsLanes : Obligations.ConfigurationRegisterIsLanes := by
  unfold Obligations.ConfigurationRegisterIsLanes
  constructor
  · intro s rest he
    obtain ⟨hlo, hhi⟩ := s.params.LANES_bounds
    refine ⟨s.cfg, step_host_read .cfg he, ?_⟩
    rw [State.cfg_toNat]
    omega
  · intro s data rest hd he
    exact step_host_write .cfg hd he

end Sys2Proof.Machine
end

section
/-! PROOF. Which accesses the block accepts, and the registers that ignore a write (20_memory.md R52, R54, R55). -/

namespace Sys2Proof.Machine

/-! ### Accepted accesses are those that reach a register -/

/-- The offsets of the window are the multiples of 8 below 64 (20_memory.md R51). -/
theorem regAt_isSome {off : Nat} : (regAt off).isSome ↔ ∃ n < 8, off = 8 * n := by
  constructor
  · intro h
    obtain ⟨r, hr⟩ := Option.isSome_iff_exists.mp h
    have hoff := regAt_eq_some.mp hr
    exact ⟨off / 8, by omega, by omega⟩
  · rintro ⟨n, hn, rfl⟩
    have hall : ∀ n < 8, (regAt (8 * n)).isSome := by decide
    exact hall n hn

/-- The block accepts an access exactly when it reaches a register. -/
theorem State.accepts_iff_target {s : State} {a : Access} : s.accepts a ↔ (s.target a.addr a.size).isSome := by
  rw [Option.isSome_iff_exists]
  constructor
  · rintro ⟨h8, n, hn, haddr⟩
    obtain ⟨r, hr⟩ := Option.isSome_iff_exists.mp (regAt_isSome.mpr ⟨n, hn, rfl⟩)
    exact ⟨r, State.target_eq_some.mpr ⟨h8, 8 * n, haddr, hr⟩⟩
  · rintro ⟨r, hr⟩
    obtain ⟨h8, off, haddr, hoff⟩ := State.target_eq_some.mp hr
    obtain ⟨n, hn, rfl⟩ := regAt_isSome.mp (Option.isSome_of_eq_some hoff)
    exact ⟨h8, n, hn, haddr⟩

/-! ### The bus error -/

/-- A write that reaches a register raises no bus error, whether BUSY forbids it or not. -/
theorem State.writeReg_ne_busError (s : State) (r : Reg) (v : Word) : s.writeReg r v ≠ .fault .busError := by
  cases r <;> cases hb : s.busy <;> simp [State.writeReg, State.writeWhenIdle, hb]

/-- A read that reaches a register raises no bus error, whether BUSY forbids it or not. -/
theorem State.readReg_ne_busError (s : State) (r : Reg) : s.readReg r ≠ .fault .busError := by
  cases r <;> cases hb : s.busy <;> simp [State.readReg, State.readWhenIdle, hb]

/-- An access ends in the bus error exactly when it reaches no register (20_memory.md R52). -/
theorem State.access_eq_busError {s : State} {a : Access} :
    s.access a = .fault .busError ↔ s.target a.addr a.size = .none := by
  cases a with
  | read addr size =>
    cases ht : s.target addr size with
    | none => simp [State.access, Access.addr, Access.size, ht]
    | some r => simpa [State.access, Access.addr, Access.size, ht] using s.readReg_ne_busError r
  | write addr data =>
    cases ht : s.target addr data.length with
    | none => simp [State.access, Access.addr, Access.size, ht]
    | some r => simpa [State.access, Access.addr, Access.size, ht] using s.writeReg_ne_busError r (wordOfBytes data)

/-- A step whose next event is a host access makes that access, one event later. -/
theorem step_host {s : State} {a : Access} {rest : List Event} (h : s.events = .host a :: rest) :
    step s = State.access { s with events := rest } a := by
  simp only [step, h, State.happen]

/-- Settles O33: the step is the access, which ends in the bus error exactly when it reaches no register, and the accesses that reach
one are the accepted ones. -/
theorem onlyAlignedEightByteAccesses : Obligations.OnlyAlignedEightByteAccesses := by
  unfold Obligations.OnlyAlignedEightByteAccesses
  intro s a rest he
  have hacc : s.accepts a ↔ (State.target { s with events := rest } a.addr a.size).isSome := State.accepts_iff_target
  rw [step_host he, State.access_eq_busError, hacc, Option.not_isSome_iff_eq_none]

/-! ### The registers that ignore a write -/

/-- At each of the five offsets stands a register that ignores a write, whatever BUSY is (20_memory.md R54, R55). -/
theorem exists_reg_ignoring_writes {off : Nat} (h : off ∈ [0x18, 0x20, 0x28, 0x30, 0x38]) :
    ∃ r : Reg, r.offset = off ∧ ∀ (s : State) (v : Word), s.writeReg r v = .next s := by
  simp only [List.mem_cons, List.not_mem_nil, or_false] at h
  rcases h with rfl | rfl | rfl | rfl | rfl
  · exact ⟨.status, rfl, fun _ _ => rfl⟩
  · exact ⟨.res0, rfl, fun _ _ => rfl⟩
  · exact ⟨.res1, rfl, fun _ _ => rfl⟩
  · exact ⟨.cfg, rfl, fun _ _ => rfl⟩
  · exact ⟨.reserved, rfl, fun _ _ => rfl⟩

/-- Settles O36: the write reaches a register that ignores it, and a read of the reserved offset answers 0. -/
theorem readOnlyRegistersIgnoreWrites : Obligations.ReadOnlyRegistersIgnoreWrites := by
  unfold Obligations.ReadOnlyRegistersIgnoreWrites
  constructor
  · intro s off data rest hoff hd he
    obtain ⟨r, rfl, hignores⟩ := exists_reg_ignoring_writes hoff
    rw [step_host_write r hd he, hignores]
  · intro s rest he
    exact step_host_read .reserved he

end Sys2Proof.Machine
end

section
/-! PROOF. Which words are ILLEGAL, and that an illegal word only reports (30_encoding.md R73 to R75, R77). `decode_isError_iff` lists the
illegal words once: decoding refuses exactly these, and the core agent's turn only reports them. -/

namespace Sys2Proof

/-! ### Illegal words -/

theorem laneless_isError_iff {lane : BitVec 16} {i : Instr} : (∃ e, laneless lane i = .error e) ↔ lane ≠ 0#16 := by
  unfold laneless
  split <;> simp_all

/-- The table refuses exactly an unassigned operation code and a lane on a command without one
(30_encoding.md R74, R75). -/
theorem decodeRow_isError_iff {opc : Nat} {lane : BitVec 16} :
    (∃ e, decodeRow opc lane = .error e) ↔
      opc = 0x00 ∨ 0x0C ≤ opc ∨ (opc ∈ [0x01, 0x02, 0x05, 0x06, 0x07] ∧ lane ≠ 0#16) := by
  unfold decodeRow
  split
  case h_12 => -- the codes no row is assigned to
    simp only [Except.error.injEq, exists_eq', true_iff, imp_false] at *
    omega
  all_goals simp [laneless_isError_iff]

/-- The illegal words: a reserved bit, an unassigned operation code, or a lane on a command without one (30_encoding.md R77). -/
theorem decode_isError_iff {w : Word} :
    (∃ e, decode w = .error e) ↔
      rsv1Field w ≠ 0#32 ∨ rsv0Field w ≠ 0#8 ∨ (opcField w).toNat = 0x00 ∨ 0x0C ≤ (opcField w).toNat ∨
        ((opcField w).toNat ∈ [0x01, 0x02, 0x05, 0x06, 0x07] ∧ laneField w ≠ 0#16) := by
  rw [← decodeRow_isError_iff, ← or_assoc]
  unfold decode
  split <;> next hrsv => simp [hrsv]

/-! ### The rows of the table -/

/-- The row a command comes from is the one at its operation code (30_encoding.md R71). -/
theorem decodeRow_row {opc : Nat} {lane : BitVec 16} {i : Instr} (h : decodeRow opc lane = .ok i) :
    [Instr.mulmod1, .mulmod2, .stepz lane.toNat, .stepw lane.toNat, .inittab, .treadz, .treadw, .seed lane.toNat, .next lane.toNat,
      .ldstate lane.toNat, .rdstate lane.toNat][opc - 1]? = some i := by
  unfold decodeRow at h
  split at h <;> simp_all [laneless_eq_ok]

/-- Settles O3: decoding refuses exactly the words of `decode_isError_iff`, and any other word decodes to its row by `decodeRow_row`. -/
theorem decodeFollowsItsRule : Obligations.DecodeFollowsItsRule := by
  unfold Obligations.DecodeFollowsItsRule
  intro w
  rw [← opcField_toNat, ← rsv0Field_toNat, ← laneField_toNat, ← rsv1Field_toNat]
  have hrefuses := decode_isError_iff (w := w)
  simp only [BitVec.toNat_ne, BitVec.toNat_zero, List.mem_cons, List.not_mem_nil, or_false] at hrefuses
  dsimp only
  split
  · next hillegal => exact hrefuses.mpr hillegal
  · next hlegal =>
    cases hd : decode w with
    | error e => exact absurd (hrefuses.mp ⟨e, hd⟩) hlegal
    | ok i =>
      obtain ⟨-, -, hrow⟩ := decode_eq_ok.mp hd
      exact ⟨i, decodeRow_row hrow, rfl⟩

end Sys2Proof

namespace Sys2Proof.Machine

open Sys2Proof.Statements

/-! ### The core agent's turn on an illegal word -/

/-- With the core agent next, the step is its turn, one event later (20_memory.md R59, R60). -/
theorem step_of_coreNext {s : State} {rest : List Event} (h : coreNext s rest) :
    step s = State.coreTurn { s with events := rest } := by
  rcases h with he | ⟨he, rfl⟩
  · simp only [step, he, State.happen]
  · simp only [step, he]
    rw [← he]

/-- With BUSY = 1 and an illegal word pending, the turn completes with ILLEGAL and changes STATUS only (30_encoding.md R75). -/
theorem State.coreTurn_of_isError {s : State} (hb : s.busy = true) (h : ∃ e, decode s.pcmd = .error e) :
    s.coreTurn = .next (failed s .illegal) := by
  obtain ⟨e, he⟩ := h
  simp only [State.coreTurn, hb, if_true, State.fetch, he]
  rw [State.perform_error, State.raiseError_eq s (by decide), failed]

/-- Settles O5: each of the three causes makes the word illegal by `decode_isError_iff`, and the turn only reports it. -/
theorem illegalWordsOnlyReport : Obligations.IllegalWordsOnlyReport := by
  unfold Obligations.IllegalWordsOnlyReport
  intro s rest hnext hb
  have reports (h : ∃ e, decode s.pcmd = .error e) : step s = .next (failed { s with events := rest } .illegal) := by
    rw [step_of_coreNext hnext]
    exact State.coreTurn_of_isError hb h
  refine ⟨fun hrsv => reports ?_, fun hopc hlane => reports ?_, fun hopc => reports ?_⟩ <;> rw [decode_isError_iff]
  · tauto
  · exact .inr (.inr (.inr (.inr ⟨hopc, hlane⟩)))
  · tauto

end Sys2Proof.Machine
end

section
/-! PROOF. MULMOD1 and MULMOD2 (40_wide_modmul.md R103, R104). `hasOneWord_of_decode` says of any command without a lane that no second
word means it; the two commands are one pseudocode at two widths and moduli, whose two outcomes are `State.perform_multiply` and
`State.perform_multiply_tooWide`. -/

namespace Sys2Proof

/-! ### The one word of a command without a lane -/

/-- The four fields cover the word: two words with the same fields are one (30_encoding.md R70). -/
theorem word_eq_of_fields {v w : Word} (hopc : opcField v = opcField w) (hrsv0 : rsv0Field v = rsv0Field w)
    (hlane : laneField v = laneField w) (hrsv1 : rsv1Field v = rsv1Field w) : v = w := by
  rw [BitVec.toNat_eq, opcField_toNat, opcField_toNat] at hopc
  rw [BitVec.toNat_eq, rsv0Field_toNat, rsv0Field_toNat] at hrsv0
  rw [BitVec.toNat_eq, laneField_toNat, laneField_toNat] at hlane
  rw [BitVec.toNat_eq, rsv1Field_toNat, rsv1Field_toNat] at hrsv1
  apply BitVec.eq_of_toNat_eq
  omega

/-- A legal word with the operation code of a command without a lane is 0 in every other field
(30_encoding.md R73, R74). -/
theorem fields_eq_zero_of_laneless {w : Word} (hlegal : ¬ ∃ e, decode w = .error e)
    (hopc : (opcField w).toNat ∈ [0x01, 0x02, 0x05, 0x06, 0x07]) :
    rsv0Field w = 0#8 ∧ laneField w = 0#16 ∧ rsv1Field w = 0#32 := by
  rw [decode_isError_iff] at hlegal
  tauto

end Sys2Proof

namespace Sys2Proof.Machine

open Sys2Proof.Statements

/-- A word that decodes to a command without a lane is the only one with its operation code that does: any other is illegal, and the
core agent's turn only reports it (30_encoding.md R73, R74, R75). -/
theorem hasOneWord_of_decode {w : Word} {i : Instr} (hd : decode w = .ok i)
    (hopc : (opcField w).toNat ∈ [0x01, 0x02, 0x05, 0x06, 0x07]) : hasOneWord w i := by
  refine ⟨hd, fun s hb hsame hne => State.coreTurn_of_isError hb ?_⟩
  by_contra hlegal
  obtain ⟨hs0, hsl, hs1⟩ := fields_eq_zero_of_laneless hlegal (hsame ▸ hopc)
  obtain ⟨hw0, hwl, hw1⟩ := fields_eq_zero_of_laneless (by simp [hd]) hopc
  exact hne (word_eq_of_fields hsame (hs0.trans hw0.symm) (hsl.trans hwl.symm) (hs1.trans hw1.symm))

/-! ### The multiply commands -/

theorem State.operandsFit_eq_false {s : State} {n : Nat} :
    s.operandsFit n = false ↔ 2 ^ n ≤ s.opa.toNat ∨ 2 ^ n ≤ s.opb.toNat := by
  rw [← Bool.not_eq_true, State.operandsFit_iff]
  omega

/-- With operands of at most n bits the value is written to RES0 and the command finishes. -/
theorem State.perform_multiply {s : State} {n : Nat} (v : Nat) (h : s.opa.toNat < 2 ^ n ∧ s.opb.toNat < 2 ^ n) :
    s.perform (require (s.operandsFit n) .operand (.ok (s.setRes0 v))) =
      .next { s with res0 := BitVec.ofNat 64 v, err := .none, busy := false } := by
  have hok : require (s.operandsFit n) .operand (.ok (s.setRes0 v)) = .ok (s.setRes0 v) :=
    require_eq_ok.mpr ⟨State.operandsFit_iff.mpr h, rfl⟩
  rw [hok, State.perform_ok, State.finish_eq, State.setRes0]

/-- With an operand of more than n bits the command ends with OPERAND and only STATUS changes. -/
theorem State.perform_multiply_tooWide {s : State} {n : Nat} (v : Nat) (h : 2 ^ n ≤ s.opa.toNat ∨ 2 ^ n ≤ s.opb.toNat) :
    s.perform (require (s.operandsFit n) .operand (.ok (s.setRes0 v))) = .next (failed s .operand) := by
  have herr : require (s.operandsFit n) .operand (.ok (s.setRes0 v)) = .error .operand :=
    require_eq_error.mpr (.inl ⟨State.operandsFit_eq_false.mpr h, rfl⟩)
  rw [herr, State.perform_error, State.raiseError_eq s (by decide), failed]

/-- The pseudocode of MULMOD1, with its product written out (40_wide_modmul.md R100, R103). -/
theorem exec_mulmod1 (s : State) :
    exec .mulmod1 s =
      s.perform (require (s.operandsFit 53) .operand (.ok (s.setRes0 (s.opa.toNat * s.opb.toNat % Config.M1)))) := rfl

/-- The pseudocode of MULMOD2, with its product written out (40_wide_modmul.md R101, R104). -/
theorem exec_mulmod2 (s : State) :
    exec .mulmod2 s =
      s.perform (require (s.operandsFit 32) .operand (.ok (s.setRes0 (s.opa.toNat * s.opb.toNat % Config.M2)))) := rfl

/-- Settles O15: the word by `hasOneWord_of_decode`, the two outcomes by `State.perform_multiply` and `State.perform_multiply_tooWide` at
53 bits. -/
theorem mulmod1FollowsItsRule : Obligations.Mulmod1FollowsItsRule := by
  unfold Obligations.Mulmod1FollowsItsRule
  refine ⟨hasOneWord_of_decode (by decide) (by decide), fun s => ?_⟩
  rw [exec_mulmod1]
  exact ⟨State.perform_multiply _, State.perform_multiply_tooWide _⟩

/-- Settles O16: the word by `hasOneWord_of_decode`, the two outcomes by `State.perform_multiply` and `State.perform_multiply_tooWide` at
32 bits. -/
theorem mulmod2FollowsItsRule : Obligations.Mulmod2FollowsItsRule := by
  unfold Obligations.Mulmod2FollowsItsRule
  refine ⟨hasOneWord_of_decode (by decide) (by decide), fun s => ?_⟩
  rw [exec_mulmod2]
  exact ⟨State.perform_multiply _, State.perform_multiply_tooWide _⟩

end Sys2Proof.Machine
end

section
/-! PROOF. The two generators (41_generators.md R121, R125 to R127). Both steps multiply by a constant modulo a constant, so each fact is
first said of `mulMod m a` for any m and a: it keeps non-zero values when a is a unit, and the period of a state x is the order of a modulo
m / gcd(m, x). The periods of R125 and R126 are then orders modulo powers of 3 and modulo the prime 715827883. -/

namespace Sys2Proof.Machine

/-! ### The steps as multiplications by a constant -/

theorem stepZ_eq_mulMod : stepZ = mulMod Config.M1 Config.A1 := rfl

theorem stepW_eq_mulMod : stepW = mulMod Config.M2 Config.A2 := rfl

/-! ### A step gives 0 only from 0 (41_generators.md R127) -/

theorem A1_coprime_M1 : Nat.Coprime Config.A1 Config.M1 := by decide

theorem A2_coprime_M2 : Nat.Coprime Config.A2 Config.M2 := by decide

/-- Multiplying by a unit modulo m gives 0 only from 0. -/
theorem mulMod_eq_zero_iff {m a x : Nat} (ha : Nat.Coprime a m) (hx : x < m) : mulMod m a x = 0 ↔ x = 0 := by
  constructor
  · intro h
    have hdvd : m ∣ x := ha.symm.dvd_of_dvd_mul_left (Nat.dvd_of_mod_eq_zero h)
    exact Nat.eq_zero_of_dvd_of_lt hdvd hx
  · rintro rfl
    exact Nat.zero_mod m

/-- Settles O47: both multipliers are units, so `mulMod_eq_zero_iff` applies to both steps. -/
theorem stepsKeepNonzero : Obligations.StepsKeepNonzero := by
  unfold Obligations.StepsKeepNonzero
  exact ⟨fun _ => mulMod_eq_zero_iff A1_coprime_M1, fun _ => mulMod_eq_zero_iff A2_coprime_M2⟩

/-! ### Schrage's method (41_generators.md R121) -/

theorem M1_eq : Config.M1 = 5559060566555523 := by decide

theorem A1_eq : Config.A1 = 33554432 := by decide

theorem schQ_eq : Config.schQ = 165672915 := by decide

theorem schR_eq : Config.schR = 5946243 := by decide

/-- The value Schrage's method computes before its correction. -/
def schrageDiff (z : Nat) : Int :=
  ((z % Config.schQ * Config.A1 : Nat) : Int) - ((z / Config.schQ * Config.schR : Nat) : Int)

/-- Schrage's method adds M1 once, exactly when the difference of its terms is negative. -/
theorem schrageStepZ_eq (z : Nat) :
    schrageStepZ z = if schrageDiff z < 0 then schrageDiff z + (Config.M1 : Nat) else schrageDiff z := by
  simp only [schrageStepZ, schrageDiff, Nat.cast_mul]

/-- Both terms of Schrage's method are below M1. -/
theorem schrage_terms_lt {z : Nat} (hz : z < Config.M1) :
    z % Config.schQ * Config.A1 < Config.M1 ∧ z / Config.schQ * Config.schR < Config.M1 := by
  rw [schQ_eq, schR_eq, A1_eq, M1_eq] at *
  omega

theorem schrageDiff_bounds {z : Nat} (hz : z < Config.M1) :
    -((Config.M1 : Nat) : Int) < schrageDiff z ∧ schrageDiff z < (Config.M1 : Nat) := by
  obtain ⟨hleft, hright⟩ := schrage_terms_lt hz
  unfold schrageDiff
  omega

/-- A1 * z and the difference of Schrage's terms are congruent: M1 = A1 * SCH_Q + SCH_R. -/
theorem A1_mul_eq_schrageDiff (z : Nat) :
    ((Config.A1 * z : Nat) : Int) = schrageDiff z + (Config.M1 : Nat) * ((z / Config.schQ : Nat) : Int) := by
  have hz : Config.schQ * (z / Config.schQ) + z % Config.schQ = z := Nat.div_add_mod z Config.schQ
  have hM1 : Config.A1 * Config.schQ + Config.schR = Config.M1 := Nat.div_add_mod Config.M1 Config.A1
  unfold schrageDiff
  generalize z / Config.schQ = d, z % Config.schQ = r at *
  subst hz
  rw [← hM1]
  push_cast
  ring

/-- Schrage's method is StepZ: its difference is congruent to A1 * z, and the correction brings it into 0 to M1 - 1. -/
theorem schrageStepZ_eq_stepZ {z : Nat} (hz : z < Config.M1) : schrageStepZ z = (stepZ z : Int) := by
  obtain ⟨hlower, hupper⟩ := schrageDiff_bounds hz
  have hmod : (stepZ z : Int) = schrageDiff z % (Config.M1 : Nat) := by
    rw [stepZ_eq_mulMod, mulMod, Int.natCast_mod, A1_mul_eq_schrageDiff, Int.add_mul_emod_self_left]
  rw [hmod, schrageStepZ_eq]
  split
  · next hneg => rw [← Int.add_emod_right, Int.emod_eq_of_lt (by omega) (by omega)]
  · next hnonneg => rw [Int.emod_eq_of_lt (by omega) hupper]

/-- Settles O46: the two constants by evaluation, the equality by `schrageStepZ_eq_stepZ`, and the terms are below M1 < 2^53. -/
theorem schrageGivesStepZ : Obligations.SchrageGivesStepZ := by
  unfold Obligations.SchrageGivesStepZ
  refine ⟨schQ_eq, schR_eq, by decide, fun z hz => ?_⟩
  obtain ⟨hleft, hright⟩ := schrage_terms_lt hz
  exact ⟨schrageStepZ_eq_stepZ hz, hleft.trans M1_lt, hright.trans M1_lt⟩

/-! ### The period of a multiplication by a constant -/

theorem mulMod_iterate {m x : Nat} (a : Nat) (hx : x < m) (n : Nat) : (mulMod m a)^[n] x = a ^ n * x % m := by
  induction n with
  | zero => simp [Nat.mod_eq_of_lt hx]
  | succ n ih => rw [Function.iterate_succ_apply', ih, mulMod, Nat.mul_mod_mod, ← mul_assoc, ← pow_succ']

theorem natCast_pow_eq_one_iff {m a n : Nat} : ((a : Nat) : ZMod m) ^ n = 1 ↔ a ^ n ≡ 1 [MOD m] := by
  rw [← ZMod.natCast_eq_natCast_iff, Nat.cast_pow, Nat.cast_one]

/-- n steps lead from x back to x exactly when a ^ n = 1 modulo m / gcd(m, x). -/
theorem mulMod_isPeriodicPt_iff {m x : Nat} (a : Nat) (hx : x < m) (n : Nat) :
    Function.IsPeriodicPt (mulMod m a) n x ↔ a ^ n ≡ 1 [MOD m / Nat.gcd m x] := by
  have hreturns : Function.IsPeriodicPt (mulMod m a) n x ↔ x * a ^ n ≡ x * 1 [MOD m] := by
    rw [Function.IsPeriodicPt, Function.IsFixedPt, mulMod_iterate a hx, Nat.ModEq, mul_one, mul_comm, Nat.mod_eq_of_lt hx]
  rw [hreturns]
  constructor
  · exact Nat.ModEq.cancel_left_div_gcd (Nat.zero_lt_of_lt hx)
  · intro h
    refine (h.mul_left' x).of_dvd ?_ -- m divides x * (m / gcd(m, x)), which is lcm(m, x)
    rw [← Nat.mul_div_assoc x (Nat.gcd_dvd_left m x), mul_comm, Nat.mul_div_assoc m (Nat.gcd_dvd_right m x)]
    exact dvd_mul_right m _

/-- The period of a state x under multiplication by a modulo m is the order of a modulo m / gcd(m, x). -/
theorem minimalPeriod_mulMod {m x : Nat} (a : Nat) (hx : x < m) :
    Function.minimalPeriod (mulMod m a) x = orderOf ((a : Nat) : ZMod (m / Nat.gcd m x)) := by
  refine Function.minimalPeriod_eq_minimalPeriod_iff.mpr fun n => ?_
  rw [mulMod_isPeriodicPt_iff a hx, isPeriodicPt_mul_iff_pow_eq_one, natCast_pow_eq_one_iff]

/-! ### The large generator (41_generators.md R125) -/

/-- 2 is a primitive root modulo every power of 3: 4 = 1 + 3 has order 3^k modulo 3^(k+1), and the order of 2 is even modulo 3. -/
theorem orderOf_two_zmod_three_pow (k : Nat) : orderOf ((2 : Nat) : ZMod (3 ^ (k + 1))) = 2 * 3 ^ k := by
  have hsquare : orderOf (((2 : Nat) : ZMod (3 ^ (k + 1))) ^ 2) = 3 ^ k := by
    rw [← ZMod.orderOf_one_add_prime Nat.prime_three (by decide) k]
    norm_num
  have hthree : orderOf ((2 : Nat) : ZMod 3) = 2 := orderOf_eq_prime (by decide) (by decide)
  have heven : 2 ∣ orderOf ((2 : Nat) : ZMod (3 ^ (k + 1))) := by
    have hone := natCast_pow_eq_one_iff.mp (pow_orderOf_eq_one ((2 : Nat) : ZMod (3 ^ (k + 1))))
    have hdvd := orderOf_dvd_of_pow_eq_one (natCast_pow_eq_one_iff.mpr (hone.of_dvd (dvd_pow_self 3 k.succ_ne_zero)))
    rwa [hthree] at hdvd
  rw [orderOf_pow_of_dvd two_ne_zero heven] at hsquare
  rw [← hsquare, Nat.mul_div_cancel' heven]

/-- A1 = 2^25 has the order of 2 modulo every power of 3, because 25 is coprime to 2 * 3^k. -/
theorem orderOf_A1_zmod_three_pow (k : Nat) : orderOf ((Config.A1 : Nat) : ZMod (3 ^ (k + 1))) = 2 * 3 ^ k := by
  have hcoprime : Nat.Coprime (2 * 3 ^ k) 25 := Nat.Coprime.mul_left (by decide) (Nat.Coprime.pow_left k (by decide))
  rw [Config.A1, Nat.cast_pow, Nat.Coprime.orderOf_pow, orderOf_two_zmod_three_pow]
  rwa [orderOf_two_zmod_three_pow]

/-- A state whose greatest power of 3 is 3^e has period 2 * 3^(32-e) (41_generators.md R125). -/
theorem minimalPeriod_stepZ {e u : Nat} (he : e ≤ 32) (hu : Nat.Coprime u 3) (hlt : 3 ^ e * u < Config.M1) :
    Function.minimalPeriod stepZ (3 ^ e * u) = 2 * 3 ^ (32 - e) := by
  have hM1 : Config.M1 = 3 ^ e * 3 ^ (32 - e + 1) := by
    rw [← pow_add, Config.M1]
    congr 1
    omega
  have hgcd : Nat.gcd Config.M1 (3 ^ e * u) = 3 ^ e := by
    rw [hM1, Nat.gcd_mul_left, (hu.symm.pow_left _).gcd_eq_one, mul_one]
  have hquot : Config.M1 / 3 ^ e = 3 ^ (32 - e + 1) := by
    rw [hM1, Nat.mul_div_cancel_left _ (by positivity)]
  rw [stepZ_eq_mulMod, minimalPeriod_mulMod _ hlt, hgcd, hquot, orderOf_A1_zmod_three_pow]

/-- Settles O56: the orders are those modulo 3^(32+1), and both periods are `minimalPeriod_stepZ`, with e = 0 for a state coprime to 3. -/
theorem periodOfTheLargeGenerator : Obligations.PeriodOfTheLargeGenerator := by
  unfold Obligations.PeriodOfTheLargeGenerator
  refine ⟨by norm_num, ?_, orderOf_two_zmod_three_pow 32, orderOf_A1_zmod_three_pow 32, fun z hz hcoprime => ?_,
    fun e u _ he hu hlt => minimalPeriod_stepZ he hu hlt, rfl⟩
  · rw [Config.M1, Nat.totient_prime_pow Nat.prime_three (by decide), mul_comm]
  · have hperiod := minimalPeriod_stepZ (e := 0) (Nat.zero_le 32) hcoprime (by rwa [pow_zero, one_mul])
    rwa [pow_zero, one_mul] at hperiod

/-! ### The small generator (41_generators.md R126) -/

theorem M2_eq : Config.M2 = 3 * 715827883 := by decide

/-- What holds of each entry of n's list of prime factors holds of each prime divisor of n. -/
theorem forall_prime_dvd_of_primeFactorsList {n : Nat} {P : Nat → Prop} (hn : n ≠ 0) (h : ∀ q ∈ n.primeFactorsList, P q) :
    ∀ q, q.Prime → q ∣ n → P q :=
  fun q hq hdvd => h q ((Nat.mem_primeFactorsList hn).mpr ⟨hq, hdvd⟩)

/-- 715827883 is prime by Lucas's test: 5 has order 715827882 = 2 * 3 * 7 * 11 * 31 * 151 * 331 modulo it. -/
theorem prime_715827883 : Nat.Prime 715827883 := by
  have hfactors : Nat.primeFactorsList (715827883 - 1) = [2, 3, 7, 11, 31, 151, 331] := by simp
  refine lucas_primality _ (5 : ZMod 715827883) (by reduce_mod_char) (forall_prime_dvd_of_primeFactorsList (by decide) ?_)
  rw [hfactors]
  simp only [List.forall_mem_cons, List.not_mem_nil, false_implies, implies_true, and_true, Nat.reduceSub, Nat.reduceDiv]
  refine ⟨?_, ?_, ?_, ?_, ?_, ?_, ?_⟩ <;> reduce_mod_char <;> decide

/-- A2 ^ 119304647 is 1 modulo 715827883, and 119304647 = 7 * 11 * 31 * 151 * 331 with any one factor taken out gives no 1. -/
theorem orderOf_A2_zmod_prime : orderOf ((Config.A2 : Nat) : ZMod 715827883) = 119304647 := by
  have hfactors : Nat.primeFactorsList 119304647 = [7, 11, 31, 151, 331] := by simp
  rw [Config.A2]
  refine orderOf_eq_of_pow_and_pow_div_prime (by decide) (by reduce_mod_char) (forall_prime_dvd_of_primeFactorsList (by decide) ?_)
  rw [hfactors]
  simp only [List.forall_mem_cons, List.not_mem_nil, false_implies, implies_true, and_true, Nat.reduceDiv, Nat.cast_ofNat]
  refine ⟨?_, ?_, ?_, ?_, ?_⟩ <;> reduce_mod_char <;> decide

/-- Modulo 3 the multiplier A2 is 1, so its powers are 1 modulo M2 exactly when they are modulo 715827883. -/
theorem A2_pow_modEq_one_iff (n : Nat) : Config.A2 ^ n ≡ 1 [MOD Config.M2] ↔ Config.A2 ^ n ≡ 1 [MOD 715827883] := by
  have hthree : Config.A2 ^ n ≡ 1 [MOD 3] := by
    have hA2 : Config.A2 ≡ 1 [MOD 3] := by decide
    simpa using hA2.pow n
  rw [M2_eq, ← Nat.modEq_and_modEq_iff_modEq_mul (by decide), and_iff_right hthree]

theorem orderOf_A2_zmod_M2 : orderOf ((Config.A2 : Nat) : ZMod Config.M2) = 119304647 := by
  rw [← orderOf_A2_zmod_prime, orderOf_eq_orderOf_iff]
  intro n
  rw [natCast_pow_eq_one_iff, natCast_pow_eq_one_iff, A2_pow_modEq_one_iff]

/-- The greatest common divisor of M2 and a non-zero state divisible by 3 is 3, because 715827883 is prime. -/
theorem gcd_M2_of_three_dvd {w : Nat} (hlt : w < Config.M2) (hne : w ≠ 0) (hdvd : 3 ∣ w) : Nat.gcd Config.M2 w = 3 := by
  obtain ⟨v, rfl⟩ := hdvd
  have hv : v < 715827883 := by
    rw [M2_eq] at hlt
    omega
  have hcoprime : Nat.Coprime 715827883 v := Nat.coprime_of_lt_prime (by omega) hv prime_715827883
  rw [M2_eq, Nat.gcd_mul_left, hcoprime.gcd_eq_one]

theorem minimalPeriod_stepW_of_coprime {w : Nat} (hlt : w < Config.M2) (hw : Nat.Coprime w Config.M2) :
    Function.minimalPeriod stepW w = 119304647 := by
  rw [stepW_eq_mulMod, minimalPeriod_mulMod _ hlt, hw.symm.gcd_eq_one, Nat.div_one, orderOf_A2_zmod_M2]

theorem minimalPeriod_stepW_of_three_dvd {w : Nat} (hlt : w < Config.M2) (hne : w ≠ 0) (hdvd : 3 ∣ w) :
    Function.minimalPeriod stepW w = 119304647 := by
  have hquot : Config.M2 / 3 = 715827883 := by decide
  rw [stepW_eq_mulMod, minimalPeriod_mulMod _ hlt, gcd_M2_of_three_dvd hlt hne hdvd, hquot, orderOf_A2_zmod_prime]

/-- Settles O57: the order by `orderOf_A2_zmod_prime`, the two periods by `minimalPeriod_mulMod` with 1 and 3 as the greatest common
divisor, the fixed points by evaluation. -/
theorem periodOfTheSmallGenerator : Obligations.PeriodOfTheSmallGenerator := by
  unfold Obligations.PeriodOfTheSmallGenerator
  exact ⟨M2_eq, A2_coprime_M2, by decide, orderOf_A2_zmod_prime, fun _ => minimalPeriod_stepW_of_coprime,
    fun _ => minimalPeriod_stepW_of_three_dvd, by decide, by decide, by decide⟩

end Sys2Proof.Machine
end

section
/-! PROOF. The jump-ahead tables, the digits of an index, and the two jumps (42_jump_ahead.md R140 to R142, R145, R147 to R149). Each table
cell and each accumulator of a jump is a power of the multiplier whose exponent is followed: the exponents of the construction recurrence
are `j * 32^i`, and those of a jump after n digits are the index modulo 32^n, so that eleven digits give the closed forms. -/

namespace Sys2Proof.Machine

open Sys2Proof.Statements

/-! ### The construction recurrence gives powers (42_jump_ahead.md R141, R142, R148) -/

/-- Reducing the factors first does not change a product reduced modulo m. -/
theorem mulMod_mod_mod (m x y : Nat) : mulMod m (x % m) (y % m) = x * y % m :=
  (Nat.mul_mod x y m).symm

/-- n squarings raise to the power 2^n. -/
theorem squareTimes_mod (m n x : Nat) : squareTimes m n (x % m) = x ^ 2 ^ n % m := by
  induction n generalizing x with
  | zero => rw [pow_zero, pow_one, squareTimes]
  | succ n ih => rw [squareTimes, mulMod_mod_mod, ih, ← pow_two, ← pow_mul, ← pow_succ']

/-- Five squarings a row: the base of row i is the power 32^i of the multiplier. -/
theorem rowBase_eq (a m i : Nat) : rowBase a m i = a ^ 32 ^ i % m := by
  induction i with
  | zero => rw [pow_zero, pow_one, rowBase]
  | succ i ih => rw [rowBase, ih, squareTimes_mod, show 2 ^ 5 = 32 from rfl, ← pow_mul, ← pow_succ]

/-- The recurrence gives the cell's closed form: each column multiplies by the base of the row once more. -/
theorem tableCell_eq {m : Nat} (hm : 1 < m) (a i j : Nat) : tableCell a m i j = a ^ (j * 32 ^ i) % m := by
  induction j with
  | zero => rw [tableCell, Nat.zero_mul, pow_zero, Nat.mod_eq_of_lt hm]
  | succ j ih =>
    cases j with
    | zero => rw [tableCell, rowBase_eq, Nat.zero_add, Nat.one_mul]
    | succ j => rw [tableCell, ih, rowBase_eq, mulMod_mod_mod, ← pow_add, ← Nat.succ_mul]

theorem builtTables_right : builtTables.right := fun i j =>
  ⟨(builtTables_tzCell i j).trans (tableCell_eq (by decide) _ _ _), (builtTables_twCell i j).trans (tableCell_eq (by decide) _ _ _)⟩

/-- Settles O48: every cell by `builtTables_right`; the recurrence starts each row with 1, and row 0 goes on with the multiplier. -/
theorem builtTablesHoldThePowers : Obligations.BuiltTablesHoldThePowers := by
  unfold Obligations.BuiltTablesHoldThePowers
  refine ⟨fun i j => (builtTables_right i j).1, fun i j => (builtTables_right i j).2, ?_, ?_, fun i => ⟨?_, ?_⟩⟩
  · exact (builtTables_tzCell 0 1).trans (by decide)
  · exact (builtTables_twCell 0 1).trans (by decide)
  · rw [builtTables_tzCell, Fin.val_zero, tableCell]
  · rw [builtTables_twCell, Fin.val_zero, tableCell]

/-! ### INITTAB (42_jump_ahead.md R149) -/

/-- The right tables are one: every cell is given. -/
theorem Tables.right.unique {T U : Tables} (hT : T.right) (hU : U.right) : T = U := by
  obtain ⟨tz, tw⟩ := T
  obtain ⟨uz, uw⟩ := U
  congr 1
  · refine Vector.ext fun i hi => Vector.ext fun j hj => BitVec.eq_of_toNat_eq ?_
    exact (hT ⟨i, hi⟩ ⟨j, hj⟩).1.trans (hU ⟨i, hi⟩ ⟨j, hj⟩).1.symm
  · refine Vector.ext fun i hi => Vector.ext fun j hj => BitVec.eq_of_toNat_eq ?_
    exact (hT ⟨i, hi⟩ ⟨j, hj⟩).2.trans (hU ⟨i, hi⟩ ⟨j, hj⟩).2.symm

/-- INITTAB has one outcome, from every state. -/
theorem exec_inittab (s : State) :
    exec .inittab s = .next { s with tables := some builtTables, err := .none, busy := false } := by
  rw [exec, execInittab, State.perform_ok, State.finish_eq]

/-- Over right tables INITTAB writes the same values again. -/
theorem exec_inittab_of_right {s : State} {T : Tables} (hs : s.tables = some T) (hT : T.right) :
    exec .inittab s = .next { s with err := .none, busy := false } := by
  rw [exec_inittab, builtTables_right.unique hT, ← hs]

/-- A STATUS read while BUSY = 0 answers the STATUS word of 10_state.md R33. -/
theorem State.readReg_status_of_idle {s : State} (h : s.busy = false) : s.readReg .status = .next (s.answer s.idleStatus) := by
  simp [State.readReg, h]

/-- Settles O19: the word by `hasOneWord_of_decode`, the outcome by `exec_inittab` with the tables of `builtTables_right`. -/
theorem inittabFollowsItsRule : Obligations.InittabFollowsItsRule := by
  unfold Obligations.InittabFollowsItsRule
  refine ⟨hasOneWord_of_decode (by decide) (by decide), fun s => ?_, fun s T => exec_inittab_of_right, fun p => ?_⟩
  · exact ⟨_, builtTables, exec_inittab s, builtTables_right, rfl, rfl, fun _ => rfl⟩
  · have hstatus :
        ({ State.atReset p with tables := some builtTables, err := .none, busy := false } : State).idleStatus = 0x2#64 := rfl
    exact ⟨_, exec_inittab _, hstatus ▸ State.readReg_status_of_idle rfl⟩

/-! ### The digits of an index (42_jump_ahead.md R140) -/

theorem digit_eq_div_pow (k i : Nat) : (digit k i).val = k / 32 ^ i % 32 := by
  rw [digit_val, pow_mul, show 2 ^ 5 = 32 from rfl]

/-- Digit n is what the index modulo 32^(n+1) has over the index modulo 32^n. -/
theorem mod_pow_add_digit (k n : Nat) : k % 32 ^ n + (digit k n).val * 32 ^ n = k % 32 ^ (n + 1) := by
  rw [digit_eq_div_pow, Nat.mod_pow_succ, Nat.mul_comm]

/-- The first n digits rebuild the index modulo 32^n. -/
theorem sum_digits_eq_mod (k n : Nat) : ∑ i ∈ Finset.range n, (digit k i).val * 32 ^ i = k % 32 ^ n := by
  induction n with
  | zero => rw [Finset.sum_range_zero, pow_zero, Nat.mod_one]
  | succ n ih => rw [Finset.sum_range_succ, ih, mod_pow_add_digit]

/-- Bit b of digit i is bit 5i + b of the index. -/
theorem digit_testBit (k i : Nat) {b : Nat} (hb : b < 5) : (digit k i).val.testBit b = k.testBit (5 * i + b) := by
  rw [digit_val, show 32 = 2 ^ 5 from rfl, Nat.testBit_mod_two_pow, decide_eq_true hb, Bool.true_and, Nat.testBit_div_two_pow,
    Nat.add_comm]

/-- Settles O49: eleven digits rebuild the index modulo 32^11 = 2^55, and each digit is its bit field by `digit_testBit`. -/
theorem digitsRebuildTheIndex : Obligations.DigitsRebuildTheIndex := by
  unfold Obligations.DigitsRebuildTheIndex
  intro k hk
  refine ⟨?_, fun i _ b hb => digit_testBit k i hb⟩
  rw [sum_digits_eq_mod, Nat.mod_eq_of_lt (by omega)]

/-! ### The closed forms of the jumps (42_jump_ahead.md R145) -/

/-- Digit n + 1 of an index is digit n of the index without its last digit. -/
theorem digit_succ (k n : Nat) : digit k (n + 1) = digit (k / 32) n := by
  rw [Fin.ext_iff, digit_eq_div_pow, digit_eq_div_pow, Nat.div_div_eq_div_mul, ← pow_succ']

section RightTables

variable {T : Tables} (hT : T.right)

include hT

/-- The accumulator of JumpZ after digit n: the seed bit, and A1 to the index without its last digit, modulo 32^n. -/
theorem jumpZFold_of_right (k n : Nat) (hn : n ≤ 10) :
    jumpZFold T k n hn = 2 ^ (k % 32) * Config.A1 ^ (k / 32 % 32 ^ n) % Config.M1 := by
  induction n with
  | zero =>
    have hlt : 2 ^ (k % 32) < Config.M1 := calc
      2 ^ (k % 32) < 2 ^ 32 := Nat.pow_lt_pow_right (by decide) (Nat.mod_lt k (by decide))
      _ < Config.M1 := by decide
    rw [jumpZFold, digit_eq_div_pow, pow_zero, Nat.div_one, Nat.mod_one, pow_zero, Nat.mul_one, Nat.mod_eq_of_lt hlt]
  | succ n ih => rw [jumpZFold_succ, ih, (hT _ _).1, mulMod1, mulMod_mod_mod, mul_assoc, ← pow_add, digit_succ, mod_pow_add_digit]

/-- The accumulator of JumpW after n digits: A2 to the index modulo 32^n. -/
theorem jumpWFold_of_right (k n : Nat) (hn : n ≤ 11) : jumpWFold T k n hn = Config.A2 ^ (k % 32 ^ n) % Config.M2 := by
  induction n with
  | zero => rw [jumpWFold, pow_zero, Nat.mod_one, pow_zero]; decide
  | succ n ih => rw [jumpWFold_succ, ih, (hT _ _).2, mulMod2, mulMod_mod_mod, ← pow_add, mod_pow_add_digit]

theorem jumpZ_of_right {k : Nat} (hk : k < 2 ^ 55) :
    jumpZ T k = 2 ^ (k % 32) * Config.A1 ^ (k / 32) * Config.HZ % Config.M1 := by
  rw [jumpZ, jumpZFold_of_right hT, Nat.mod_eq_of_lt (a := k / 32) (by omega), mulMod1, mulMod, Nat.mod_mul_mod]

theorem jumpW_of_right {k : Nat} (hk : k < 2 ^ 55) : jumpW T k = Config.A2 ^ (k + 1) % Config.M2 := by
  rw [jumpW, jumpWFold_of_right hT, Nat.mod_eq_of_lt (a := k) (by omega), mulMod2, mulMod, Nat.mod_mul_mod, ← pow_succ]

/-- JumpZ with its one base: A1 is 2^25. -/
theorem jumpZ_eq_two_pow {k : Nat} (hk : k < 2 ^ 55) :
    jumpZ T k = 2 ^ (k % 32 + 25 * (k / 32)) * Config.HZ % Config.M1 := by
  rw [jumpZ_of_right hT hk, Config.A1, ← pow_mul, ← pow_add]

end RightTables

/-- Settles O51: the accumulators hold their powers, and an index below 2^55 has no more than eleven digits. -/
theorem jumpsHaveTheClosedForms : Obligations.JumpsHaveTheClosedForms := by
  unfold Obligations.JumpsHaveTheClosedForms
  exact fun T k hT hk => ⟨jumpZ_of_right hT hk, jumpZ_eq_two_pow hT hk, jumpW_of_right hT hk⟩

/-! ### The jumps are units (42_jump_ahead.md R147) -/

/-- JumpZ is a product of powers of 2 and HZ, and reduction modulo a power of 3 keeps it coprime to 3. -/
theorem jumpZ_coprime_three {T : Tables} {k : Nat} (hT : T.right) (hk : k < 2 ^ 55) : Nat.Coprime (jumpZ T k) 3 := by
  have hHZ : Nat.Coprime Config.HZ Config.M1 := by decide
  have hM1 : Nat.Coprime (jumpZ T k) Config.M1 := by
    rw [jumpZ_eq_two_pow hT hk, ZMod.coprime_mod_iff_coprime]
    exact Nat.Coprime.mul_left (Nat.Coprime.pow_left _ (by decide)) hHZ
  exact hM1.coprime_dvd_right (dvd_pow_self 3 (by decide))

/-- JumpW is a power of the unit A2. -/
theorem jumpW_coprime_M2 {T : Tables} {k : Nat} (hT : T.right) (hk : k < 2 ^ 55) : Nat.Coprime (jumpW T k) Config.M2 := by
  rw [jumpW_of_right hT hk, ZMod.coprime_mod_iff_coprime]
  exact A2_coprime_M2.pow_left _

/-- A unit modulo m is not 0, unless m is 1. -/
theorem ne_zero_of_coprime {x m : Nat} (h : Nat.Coprime x m) (hm : m ≠ 1) : x ≠ 0 := by
  rintro rfl
  exact hm ((Nat.coprime_zero_left m).mp h)

/-- Settles O54: `jumpZ_coprime_three` and `jumpW_coprime_M2`, and a unit is not 0. -/
theorem jumpsAreUnits : Obligations.JumpsAreUnits := by
  unfold Obligations.JumpsAreUnits
  refine ⟨by decide, by decide, by decide, A2_coprime_M2, fun T k hT hk => ?_⟩
  have hZ := jumpZ_coprime_three hT hk
  have hW := jumpW_coprime_M2 hT hk
  exact ⟨hZ, ne_zero_of_coprime hZ (by decide), hW, ne_zero_of_coprime hW (by decide)⟩

end Sys2Proof.Machine
end

section
/-! PROOF. The combiner (43_combined_stream.md R170). The n-bit difference of two words is the n-bit word of the integer difference, so
its value is that difference modulo 2^n; and for n from 31 up, 2^31 divides 2^n, so the low 31 bits no longer depend on n. -/

namespace Sys2Proof.Machine

/-- The non-negative remainder that `combine` computes over the integers loses nothing in the naturals. -/
theorem natCast_combine (w z : Nat) : (combine w z : Int) = ((w : Int) - z) % 2 ^ 31 :=
  Int.toNat_of_nonneg (Int.emod_nonneg _ (by decide))

/-- Subtraction of n-bit words is integer subtraction, truncated once at the end. -/
theorem ofNat_sub_ofNat_eq_ofInt (n w z : Nat) : BitVec.ofNat n w - BitVec.ofNat n z = BitVec.ofInt n (w - z) := by
  rw [sub_eq_add_neg (w : Int), BitVec.ofInt_add, BitVec.ofInt_neg, BitVec.ofInt_natCast, BitVec.ofInt_natCast,
    BitVec.sub_eq_add_neg]

theorem natCast_toNat_ofNat_sub_ofNat (n w z : Nat) :
    ((BitVec.ofNat n w - BitVec.ofNat n z).toNat : Int) = ((w : Int) - z) % 2 ^ n := by
  rw [ofNat_sub_ofNat_eq_ofInt, BitVec.toNat_ofInt, Int.toNat_of_nonneg (Int.emod_nonneg _ (by positivity)),
    Nat.cast_pow, Nat.cast_ofNat]

/-- The width of the subtractor is free from 31 bits up: masking to bits 30:0 forgets the modulus 2^n, a multiple of 2^31. -/
theorem toNat_ofNat_sub_ofNat_mod_eq_combine {n : Nat} (hn : 31 ≤ n) (w z : Nat) :
    (BitVec.ofNat n w - BitVec.ofNat n z).toNat % 2 ^ 31 = combine w z := by
  have hdvd : (2 : Int) ^ 31 ∣ 2 ^ n := pow_dvd_pow 2 hn
  refine Int.natCast_inj.mp ?_
  calc (((BitVec.ofNat n w - BitVec.ofNat n z).toNat % 2 ^ 31 : Nat) : Int)
      = ((w : Int) - z) % 2 ^ n % 2 ^ 31 := by rw [Int.natCast_emod, natCast_toNat_ofNat_sub_ofNat]; norm_cast
    _ = ((w : Int) - z) % 2 ^ 31 := Int.emod_emod_of_dvd _ hdvd
    _ = combine w z := (natCast_combine w z).symm

/-- Settles O58: `natCast_combine` and `toNat_ofNat_sub_ofNat_mod_eq_combine`, which hold of all naturals. -/
theorem combineIsTheMaskedDifference : Obligations.CombineIsTheMaskedDifference := by
  unfold Obligations.CombineIsTheMaskedDifference
  exact fun w _ z _ => ⟨natCast_combine w z, fun _ hn => toNat_ofNat_sub_ofNat_mod_eq_combine hn w z⟩

end Sys2Proof.Machine
end

section
/-! PROOF. The completion of a pending command (60_exceptions.md R201 to R204). `exec_runsChecks` says of every command that its pseudocode
runs the checks of R201 in the order of R202 before it writes anything; `State.coreTurn_of_busy` turns that into the two ways a turn of the
core agent ends, and the statements about ERR, STICKY, TV and the state after a failure read their answer off it. -/

namespace Sys2Proof.Machine

open Sys2Proof.Statements

/-! ### The code of the first failing check (60_exceptions.md R202) -/

/-- The code of the first condition of the list that holds, success if none does. -/
def firstCode (cs : List (Bool × ErrCode)) : ErrCode := (cs.find? Prod.fst).elim .none Prod.snd

theorem firstCode_nil : firstCode [] = .none := rfl

theorem firstCode_cons_true (e : ErrCode) (cs : List (Bool × ErrCode)) : firstCode ((true, e) :: cs) = e := rfl

theorem firstCode_cons_false (e : ErrCode) (cs : List (Bool × ErrCode)) : firstCode ((false, e) :: cs) = firstCode cs := rfl

theorem codeOf_of_ok {s : State} {i : Instr} (h : decode s.pcmd = .ok i) : codeOf s = firstCode (checks i s) := by
  simp only [codeOf, h, firstCode]

theorem codeOf_of_isError {s : State} (h : ∃ e, decode s.pcmd = .error e) : codeOf s = .illegal := by
  obtain ⟨e, he⟩ := h
  simp only [codeOf, he]

/-! ### Pseudocode that runs a list of checks -/

/-- A command's pseudocode runs the checks cs in their order: the first that fails gives its code, and with all of them passed it ends in
a state with Q. -/
inductive RunsChecks (Q : State → Prop) : List (Bool × ErrCode) → Except ErrCode State → Prop
  | ok {u : State} (hu : Q u) : RunsChecks Q [] (.ok u)
  | fail {e : ErrCode} {cs : List (Bool × ErrCode)} (he : e ≠ .none) : RunsChecks Q ((true, e) :: cs) (.error e)
  | pass {e : ErrCode} {cs : List (Bool × ErrCode)} {r : Except ErrCode State} (hr : RunsChecks Q cs r) :
      RunsChecks Q ((false, e) :: cs) r

namespace RunsChecks

variable {Q : State → Prop} {cs : List (Bool × ErrCode)} {s : State}

/-- The two ways the pseudocode ends, told apart by the code of the first failing check. -/
theorem outcome {r : Except ErrCode State} (h : RunsChecks Q cs r) :
    (firstCode cs ≠ .none ∧ r = .error (firstCode cs)) ∨ (firstCode cs = .none ∧ ∃ u, r = .ok u ∧ Q u) := by
  induction h with
  | ok hu => exact .inr ⟨firstCode_nil, _, rfl, hu⟩
  | fail he =>
    rw [firstCode_cons_true]
    exact .inl ⟨he, rfl⟩
  | pass _ ih => rwa [firstCode_cons_false]

theorem require {r : Except ErrCode State} {ok fails : Bool} {e : ErrCode} (hok : ok = !fails) (he : e ≠ .none)
    (hr : RunsChecks Q cs r) : RunsChecks Q ((fails, e) :: cs) (require ok e r) := by
  subst hok
  cases fails with
  | false => exact .pass hr
  | true => exact .fail he

theorem checkLane {r : Except ErrCode State} {l : Nat} (hr : RunsChecks Q cs r) :
    RunsChecks Q ((decide (s.params.LANES ≤ l), .lane) :: cs) (s.checkLane l r) :=
  .require (by rw [← decide_not, decide_eq_decide, Nat.not_le]) (by decide) hr

theorem withTables {rest : Tables → Except ErrCode State} (hr : ∀ t, RunsChecks Q cs (rest t)) :
    RunsChecks Q ((!s.TV, .notables) :: cs) (s.withTables rest) := by
  unfold State.TV State.withTables
  cases s.tables with
  | none => exact .fail (by decide)
  | some t => exact .pass (hr t)

theorem withContext {l : Nat} {rest : Lane → Except ErrCode State} (hr : ∀ c, RunsChecks Q cs (rest c)) :
    RunsChecks Q ((!s.V l, .nostate) :: cs) (s.withContext l rest) := by
  unfold State.V State.withContext
  cases s.lane l with
  | none => exact .fail (by decide)
  | some c => exact .pass (hr c)

theorem withIndex {rest : Fin 11 → Fin 32 → Except ErrCode State} (hr : ∀ i j, RunsChecks Q cs (rest i j)) :
    RunsChecks Q ((decide (10 < s.opa.toNat ∨ 31 < s.opb.toNat), .tindex) :: cs) (withIndex s.tableIndex rest) := by
  rcases hij : s.tableIndex with _ | ⟨i, j⟩
  · have hout : 10 < s.opa.toNat ∨ 31 < s.opb.toNat := by
      have := State.tableIndex_eq_none.mp hij
      omega
    rw [decide_eq_true hout]
    exact .fail (by decide)
  · have hin : ¬ (10 < s.opa.toNat ∨ 31 < s.opb.toNat) := by
      obtain ⟨ha, hb⟩ := State.tableIndex_eq_some.mp hij
      omega
    rw [decide_eq_false hin]
    exact .pass (hr i j)

end RunsChecks

/-! ### Every command runs its checks -/

theorem State.operandsFit_eq_not_decide (s : State) (n : Nat) :
    s.operandsFit n = !decide (2 ^ n ≤ s.opa.toNat ∨ 2 ^ n ≤ s.opb.toNat) := by
  rw [Bool.eq_iff_iff, State.operandsFit_iff]
  simp

theorem State.operandsReduced_eq_not_decide (s : State) :
    s.operandsReduced = !decide (Config.M1 ≤ s.opa.toNat ∨ Config.M2 ≤ s.opb.toNat) := by
  rw [Bool.eq_iff_iff, State.operandsReduced_iff]
  simp

theorem State.operandsNonzero_eq_not_decide (s : State) :
    s.operandsNonzero = !decide (s.opa.toNat = 0 ∨ s.opb.toNat = 0) := by
  rw [Bool.eq_iff_iff, State.operandsNonzero_iff]
  simp

/-- What the writes of a successful command i leave of the flags of s: STICKY always, and the tables unless i is INITTAB. -/
def KeepsFlags (i : Instr) (s u : State) : Prop := u.sticky = s.sticky ∧ (i ≠ .inittab → u.tables = s.tables)

/-- Every command runs the checks of 60_exceptions.md R201 in the order of R202, and its writes keep STICKY and, but for INITTAB, the
tables. -/
theorem exec_runsChecks (i : Instr) (s : State) :
    ∃ r, exec i s = s.perform r ∧ RunsChecks (KeepsFlags i s) (checks i s) r := by
  cases i with
  | mulmod1 =>
    exact ⟨_, rfl, .pass (.pass (.pass (.require (s.operandsFit_eq_not_decide 53) (by decide) (.ok ⟨rfl, fun _ => rfl⟩))))⟩
  | mulmod2 =>
    exact ⟨_, rfl, .pass (.pass (.pass (.require (s.operandsFit_eq_not_decide 32) (by decide) (.ok ⟨rfl, fun _ => rfl⟩))))⟩
  | stepz l => exact ⟨_, rfl, .checkLane (.pass (.withContext fun _ => .ok ⟨rfl, fun _ => rfl⟩))⟩
  | stepw l => exact ⟨_, rfl, .checkLane (.pass (.withContext fun _ => .ok ⟨rfl, fun _ => rfl⟩))⟩
  | inittab => exact ⟨_, rfl, .pass (.pass (.pass (.ok ⟨rfl, fun hne => absurd rfl hne⟩)))⟩
  | treadz => exact ⟨_, rfl, .pass (.withTables fun _ => .pass (.withIndex fun _ _ => .ok ⟨rfl, fun _ => rfl⟩))⟩
  | treadw => exact ⟨_, rfl, .pass (.withTables fun _ => .pass (.withIndex fun _ _ => .ok ⟨rfl, fun _ => rfl⟩))⟩
  | seed l =>
    exact ⟨_, rfl, .checkLane (.withTables fun _ => .pass
      (.require (s.operandsFit_eq_not_decide 55) (by decide) (.ok ⟨rfl, fun _ => rfl⟩)))⟩
  | next l => exact ⟨_, rfl, .checkLane (.pass (.withContext fun _ => .ok ⟨rfl, fun _ => rfl⟩))⟩
  | ldstate l =>
    exact ⟨_, rfl, .checkLane (.pass (.pass (.require s.operandsReduced_eq_not_decide (by decide)
      (.require s.operandsNonzero_eq_not_decide (by decide) (.ok ⟨rfl, fun _ => rfl⟩)))))⟩
  | rdstate l => exact ⟨_, rfl, .checkLane (.pass (.withContext fun _ => .ok ⟨rfl, fun _ => rfl⟩))⟩

/-! ### The turn of the core agent -/

/-- The two ways a turn with BUSY = 1 ends: the code is not 0 and only STATUS changes, or the code is 0 and the writes of the decoded
command are made (60_exceptions.md R203, R204). -/
theorem State.coreTurn_of_busy {s : State} (hb : s.busy = true) :
    (codeOf s ≠ .none ∧ s.coreTurn = .next (failed s (codeOf s))) ∨
    (codeOf s = .none ∧ ∃ i u, decode s.pcmd = .ok i ∧ s.coreTurn = .next u.finish ∧ KeepsFlags i s u) := by
  cases hd : decode s.pcmd with
  | error e =>
    have hcode := codeOf_of_isError ⟨e, hd⟩
    rw [hcode]
    exact .inl ⟨by decide, State.coreTurn_of_isError hb ⟨e, hd⟩⟩
  | ok i =>
    obtain ⟨r, hr, hchecks⟩ := exec_runsChecks i s
    have hturn : s.coreTurn = s.perform r := by
      simp only [State.coreTurn, hb, if_true, State.fetch, hd, hr]
    rw [codeOf_of_ok hd, hturn]
    rcases hchecks.outcome with ⟨hne, rfl⟩ | ⟨hnone, u, rfl, hu⟩
    · exact .inl ⟨hne, congrArg _ (State.raiseError_eq s hne)⟩
    · exact .inr ⟨hnone, i, u, rfl, rfl, hu⟩

/-- A pending command completes: ERR is its code, STICKY remembers a non-zero one, BUSY becomes 0, and only INITTAB changes TV
(60_exceptions.md R203). -/
theorem State.coreTurn_completes {s : State} (hb : s.busy = true) :
    ∃ t, s.coreTurn = .next t ∧ t.err = codeOf s ∧ t.sticky = (s.sticky || decide (codeOf s ≠ .none)) ∧ t.busy = false ∧
      (decode s.pcmd ≠ .ok .inittab → t.TV = s.TV) := by
  rcases State.coreTurn_of_busy hb with ⟨hne, hturn⟩ | ⟨hnone, i, u, hd, hturn, hsticky, htables⟩
  · exact ⟨_, hturn, rfl, by simp [failed, hne], rfl, fun _ => rfl⟩
  · refine ⟨_, hturn, hnone.symm, by simp [hnone, hsticky], rfl, fun hinit => ?_⟩
    have hi : i ≠ .inittab := by rintro rfl; exact hinit hd
    rw [State.finish_TV, State.TV, htables hi, State.TV]

/-- Settles O28: part of `State.coreTurn_completes`. -/
theorem firstFailingCheckGivesTheCode : Obligations.FirstFailingCheckGivesTheCode := by
  unfold Obligations.FirstFailingCheckGivesTheCode
  intro s hb
  obtain ⟨t, hturn, herr, -⟩ := State.coreTurn_completes hb
  exact ⟨t, hturn, herr⟩

/-- Settles O27: of the two ways in `State.coreTurn_of_busy`, a non-zero ERR leaves the one that changes STATUS only. -/
theorem failingCommandWritesOnlyStatus : Obligations.FailingCommandWritesOnlyStatus := by
  unfold Obligations.FailingCommandWritesOnlyStatus
  intro s t hb ht herr
  rcases State.coreTurn_of_busy hb with ⟨-, hturn⟩ | ⟨-, i, u, -, hturn, -⟩ <;> cases ht.symm.trans hturn
  · rfl
  · exact absurd u.finish_err herr

/-! ### Which steps change TV and STICKY -/

/-- A host access changes neither TV nor STICKY: of the block it writes OPA, OPB and the command latch only (20_memory.md R54 to R57). -/
theorem State.access_keeps_flags {s t : State} {a : Access} (h : s.access a = .next t) : t.TV = s.TV ∧ t.sticky = s.sticky := by
  rcases State.access_cases h with ⟨addr, r, -, -, hread⟩ | ⟨addr, data, r, -, -, -, hwrite⟩
  · rcases State.readReg_cases hread with
      ⟨-, rfl⟩ | ⟨-, rfl⟩ | ⟨-, rfl⟩ | ⟨-, -, rfl⟩ | ⟨-, -, rfl⟩ | ⟨-, -, rfl⟩ | ⟨-, -, rfl⟩ | ⟨-, rfl⟩ <;> exact ⟨rfl, rfl⟩
  · rcases State.writeReg_cases hwrite with ⟨-, -, rfl⟩ | ⟨-, -, rfl⟩ | ⟨-, -, rfl⟩ | ⟨-, rfl⟩ <;> exact ⟨rfl, rfl⟩

/-- Only INITTAB can change TV in a turn of the core agent, and no turn clears STICKY (60_exceptions.md R203). -/
theorem State.coreTurn_flags {s t : State} (h : s.coreTurn = .next t) :
    (t.TV = s.TV ∨ (s.busy = true ∧ decode s.pcmd = .ok .inittab)) ∧ (s.sticky = true → t.sticky = true) := by
  cases hb : s.busy with
  | false =>
    have ht : s = t := by simpa [State.coreTurn, hb] using h
    subst ht
    exact ⟨.inl rfl, id⟩
  | true =>
    obtain ⟨t', hturn, -, hsticky, -, hTV⟩ := State.coreTurn_completes hb
    cases h.symm.trans hturn
    refine ⟨?_, fun hs => by rw [hsticky, hs, Bool.true_or]⟩
    by_cases hinit : decode s.pcmd = .ok .inittab
    · exact .inr ⟨rfl, hinit⟩
    · exact .inl (hTV hinit)

/-- All that a step can do to TV and STICKY: an access keeps both, a turn of the core agent does what `State.coreTurn_flags` says, and a
reset clears both. -/
theorem step_flags {s t : State} (h : step s = .next t) :
    (t.TV = s.TV ∧ t.sticky = s.sticky) ∨
    (∃ rest, coreNext s rest ∧ (t.TV = s.TV ∨ (s.busy = true ∧ decode s.pcmd = .ok .inittab)) ∧
      (s.sticky = true → t.sticky = true)) ∨
    (∃ rest, s.events = .reset :: rest ∧ t.TV = false ∧ t.sticky = false) := by
  rcases step_cases h with ⟨he, hturn⟩ | ⟨rest, he, hturn⟩ | ⟨a, rest, -, haccess⟩ | ⟨rest, he, rfl⟩
  · exact .inr (.inl ⟨[], .inr ⟨he, rfl⟩, State.coreTurn_flags hturn⟩)
  · exact .inr (.inl ⟨rest, .inl he, State.coreTurn_flags (s := { s with events := rest }) hturn⟩)
  · exact .inl (State.access_keeps_flags (s := { s with events := rest }) haccess)
  · exact .inr (.inr ⟨rest, he, rfl, rfl⟩)

/-- Settles O26: the completion by `State.coreTurn_completes`, the sources of TV and STICKY by `step_flags`. -/
theorem completionRecordsTheCode : Obligations.CompletionRecordsTheCode := by
  unfold Obligations.CompletionRecordsTheCode
  refine ⟨fun s rest hnext hb => ?_, fun s t h hoff hon => ?_, fun s t h hset hclear => ?_⟩
  · rw [step_of_coreNext hnext]
    exact State.coreTurn_completes (s := { s with events := rest }) hb
  · rcases step_flags h with ⟨hTV, -⟩ | ⟨rest, hnext, hTV | ⟨hb, hinit⟩, -⟩ | ⟨rest, -, hTV, -⟩
    · simp [hTV, hoff] at hon
    · simp [hTV, hoff] at hon
    · exact ⟨hb, hinit, rest, hnext⟩
    · simp [hTV] at hon
  · rcases step_flags h with ⟨-, hsticky⟩ | ⟨rest, -, -, hkept⟩ | ⟨rest, he, -⟩
    · simp [hsticky, hset] at hclear
    · simp [hkept hset] at hclear
    · exact ⟨rest, he⟩

end Sys2Proof.Machine
end

section
/-! PROOF. Reset and the BUSY protocol (70_reset_and_hazards.md R231, R234 to R236, R239). What STATUS reads is said of its word, with
BUSY = 0 (`State.idleStatus_fields`) and with BUSY = 1 (`State.busyStatus_fields`); each step is the access or the reset that stands
first. -/

namespace Sys2Proof.Machine

/-! ### The reset values (70_reset_and_hazards.md R231) -/

/-- With no command recorded and no tables, STATUS reads 0 once BUSY = 0. -/
theorem State.readReg_status_of_cleared {s : State} (hbusy : s.busy = false) (herr : s.err = .none) (hsticky : s.sticky = false)
    (hTV : s.TV = false) : s.readReg .status = .next (s.answer 0#64) := by
  have hzero : s.idleStatus = 0#64 := by
    rw [State.idleStatus, herr, hsticky, hTV]
    rfl
  rw [State.readReg_status_of_idle hbusy, hzero]

/-- Settles O8: the registers and flags by the lemmas of `State.atReset`, and STATUS since all its fields are 0. -/
theorem resetValuesHold : Obligations.ResetValuesHold := by
  unfold Obligations.ResetValuesHold
  intro p
  refine ⟨State.atReset_opa p, State.atReset_opb p, State.atReset_res0 p, State.atReset_res1 p, State.atReset_busy p,
    State.atReset_TV p, State.atReset_sticky p, ?_, fun l => ⟨State.atReset_V p l, State.atReset_lane p l⟩,
    State.atReset_tables p, rfl, ?_, rfl, rfl⟩
  · rw [State.atReset_err, ErrCode.code]
  · exact State.readReg_status_of_cleared (State.atReset_busy p) (State.atReset_err p) (State.atReset_sticky p) (State.atReset_TV p)

/-! ### The reset input (70_reset_and_hazards.md R239) -/

/-- A step whose next event is the reset input asserts it, one event later. -/
theorem step_reset {s : State} {rest : List Event} (h : s.events = .reset :: rest) :
    step s = .next (State.assertReset { s with events := rest }) := by
  simp only [step, h, State.happen]

/-- Settles O9: the step is `State.assertReset`, whose lemmas give every field, whatever BUSY was. -/
theorem resetInputAbandonsTheCommand : Obligations.ResetInputAbandonsTheCommand := by
  unfold Obligations.ResetInputAbandonsTheCommand
  intro s rest he
  exact ⟨_, step_reset he, State.assertReset_events _, State.assertReset_params _, State.assertReset_returned _,
    State.assertReset_res0 _, State.assertReset_res1 _, State.assertReset_opa _, State.assertReset_opb _,
    State.assertReset_V _, State.assertReset_TV _, State.assertReset_busy _,
    State.readReg_status_of_cleared (State.assertReset_busy _) (State.assertReset_err _) (State.assertReset_sticky _)
      (State.assertReset_TV _)⟩

/-! ### Breaking the BUSY protocol (70_reset_and_hazards.md R234, R235) -/

/-- At each of the three offsets stands a register that no write may reach while BUSY = 1. -/
theorem exists_reg_refusing_busy_writes {off : Nat} (h : off ∈ [0x00, 0x08, 0x10]) :
    ∃ r : Reg, r.offset = off ∧ ∀ (s : State) (v : Word), s.busy = true → s.writeReg r v = .fault .writeWhileBusy := by
  simp only [List.mem_cons, List.not_mem_nil, or_false] at h
  rcases h with rfl | rfl | rfl
  · exact ⟨.opa, rfl, fun _ _ hb => if_pos hb⟩
  · exact ⟨.opb, rfl, fun _ _ hb => if_pos hb⟩
  · exact ⟨.cmd, rfl, fun _ _ hb => if_pos hb⟩

/-- At each of the two offsets stands a result register, which may not be read while BUSY = 1. -/
theorem exists_reg_refusing_busy_reads {off : Nat} (h : off ∈ [0x20, 0x28]) :
    ∃ r : Reg, r.offset = off ∧ ∀ s : State, s.busy = true → s.readReg r = .fault .resultReadWhileBusy := by
  simp only [List.mem_cons, List.not_mem_nil, or_false] at h
  rcases h with rfl | rfl
  · exact ⟨.res0, rfl, fun _ hb => if_pos hb⟩
  · exact ⟨.res1, rfl, fun _ hb => if_pos hb⟩

/-- Settles O39: the access reaches a register that refuses it while BUSY = 1. -/
theorem busyProtocolViolationsFault : Obligations.BusyProtocolViolationsFault := by
  unfold Obligations.BusyProtocolViolationsFault
  intro s rest hb
  constructor
  · intro off data hoff hd he
    obtain ⟨r, rfl, hrefuses⟩ := exists_reg_refusing_busy_writes hoff
    rw [step_host_write r hd he, hrefuses { s with events := rest } _ hb]
  · intro off hoff he
    obtain ⟨r, rfl, hrefuses⟩ := exists_reg_refusing_busy_reads hoff
    rw [step_host_read r he, hrefuses { s with events := rest } hb]

/-! ### What STATUS reads (70_reset_and_hazards.md R236, 10_state.md R33) -/

/-- With BUSY = 1 a STATUS read answers, and draws, the next free value. -/
theorem State.readReg_status_of_busy {s : State} (h : s.busy = true) :
    s.readReg .status = .next { s.answer s.busyStatus with draws := s.draws + 1 } :=
  if_pos h

/-- The 64 bits of STATUS keep the free value and bit 0 whole. -/
theorem State.busyStatus_toNat (s : State) : s.busyStatus.toNat = (Config.busyStatusBits s.draws).toNat * 2 + 1 := by
  have hfree := (Config.busyStatusBits s.draws).isLt
  rw [State.busyStatus, BitVec.toNat_ofNat]
  omega

/-- The fields of STATUS while BUSY = 1: BUSY in bit 0 and the free value above it (70_reset_and_hazards.md R236). -/
theorem State.busyStatus_fields (s : State) :
    s.busyStatus.toNat % 2 = 1 ∧ s.busyStatus.toNat / 2 = (Config.busyStatusBits s.draws).toNat := by
  rw [State.busyStatus_toNat]
  omega

/-- The 64 bits of STATUS keep the sum of its fields whole. -/
theorem State.idleStatus_toNat (s : State) :
    s.idleStatus.toNat = s.err.code.toNat * 16 + s.sticky.toNat * 4 + s.TV.toNat * 2 := by
  have herr := s.err.code.isLt
  have hsticky := s.sticky.toNat_lt
  have hTV := s.TV.toNat_lt
  rw [State.idleStatus, BitVec.toNat_ofNat]
  omega

/-- The fields of STATUS while BUSY = 0 (10_state.md R33): bit k is the parity of the sum of the fields over 2 ^ k. -/
theorem State.idleStatus_fields (s : State) :
    s.idleStatus.getLsbD 0 = false ∧ s.idleStatus.getLsbD 1 = s.TV ∧ s.idleStatus.getLsbD 2 = s.sticky ∧
      s.idleStatus.getLsbD 3 = false ∧ s.idleStatus.toNat / 2 ^ 4 = s.err.code.toNat := by
  simp only [BitVec.getLsbD, Nat.testBit_eq_decide_div_mod_eq, State.idleStatus_toNat]
  cases s.TV <;> cases s.sticky <;>
    simp only [Bool.toNat_true, Bool.toNat_false, decide_eq_true_eq, decide_eq_false_iff_not] <;> omega

/-- A STATUS read always answers, with the word of `State.busyStatus_fields` or of `State.idleStatus_fields`. -/
theorem State.readReg_status_shows_busy (s : State) :
    ∃ t v, s.readReg .status = .next t ∧ t.returned = bytesOfWord v :: s.returned ∧
      (s.busy = true → v.toNat % 2 = 1 ∧ v.toNat / 2 = (Config.busyStatusBits s.draws).toNat ∧ t.draws = s.draws + 1) ∧
      (s.busy = false → v.getLsbD 0 = false ∧ v.getLsbD 1 = s.TV ∧ v.getLsbD 2 = s.sticky ∧ v.getLsbD 3 = false ∧
        v.toNat / 2 ^ 4 = s.err.code.toNat) := by
  cases hb : s.busy with
  | true =>
    obtain ⟨hbit, hfree⟩ := s.busyStatus_fields
    exact ⟨_, s.busyStatus, State.readReg_status_of_busy hb, rfl, fun _ => ⟨hbit, hfree, rfl⟩, nofun⟩
  | false => exact ⟨_, s.idleStatus, State.readReg_status_of_idle hb, rfl, nofun, fun _ => s.idleStatus_fields⟩

/-- Settles O41: the step is the STATUS read, one event later. -/
theorem statusReadShowsBusy : Obligations.StatusReadShowsBusy := by
  unfold Obligations.StatusReadShowsBusy
  intro s rest he
  rw [step_host_read .status he]
  exact State.readReg_status_shows_busy { s with events := rest }

end Sys2Proof.Machine
end

section
/-! PROOF. The command word and its bytes (30_encoding.md R70, R71, R77; 20_memory.md R53). Both byte orders are read bit by bit: bit i of a
word is bit i % 8 of its byte i / 8. Decoding and encoding meet in the fields: `decode_encodeFields` reads the row of the table off the
fields a command was encoded from, and `encode_of_decodeRow` encodes a command from the fields its row was read off. -/

namespace Sys2Proof

/-! ### The bytes of a word (20_memory.md R53) -/

theorem length_bytesOfWord (v : Word) : (bytesOfWord v).length = 8 := by
  rw [bytesOfWord, List.length_map, List.length_range]

theorem getElem?_bytesOfWord (v : Word) {b : Nat} (hb : b < 8) : (bytesOfWord v)[b]? = some (v.extractLsb' (8 * b) 8) := by
  rw [bytesOfWord, List.getElem?_map, List.getElem?_range hb, Option.map_some]

/-- Bit i of the word put together from bytes is bit i % 8 of byte i / 8; a byte that is not there counts as 0. -/
theorem getLsbD_wordOfBytes (bs : List Byte) {i : Nat} (hi : i < 64) :
    (wordOfBytes bs).getLsbD i = (bs[i / 8]?.getD 0#8).getLsbD (i % 8) := by
  induction bs generalizing i with
  | nil => simp [wordOfBytes]
  | cons b bs ih =>
    rw [wordOfBytes, BitVec.getLsbD_or, BitVec.getLsbD_shiftLeft, BitVec.getLsbD_setWidth]
    by_cases h8 : i < 8
    · simp [hi, h8, Nat.div_eq_of_lt h8, Nat.mod_eq_of_lt h8]
    · have hdiv : i / 8 = (i - 8) / 8 + 1 := by omega
      have hmod : i % 8 = (i - 8) % 8 := by omega
      rw [hdiv, hmod, List.getElem?_cons_succ, ← ih (by omega)]
      simp [hi, h8, BitVec.getLsbD_of_ge b i (by omega)]

theorem wordOfBytes_bytesOfWord (v : Word) : wordOfBytes (bytesOfWord v) = v := by
  refine BitVec.eq_of_getLsbD_eq fun i hi => ?_
  have hmod : i % 8 < 8 := Nat.mod_lt i (by decide)
  rw [getLsbD_wordOfBytes _ hi, getElem?_bytesOfWord v (by omega), Option.getD_some, BitVec.getLsbD_extractLsb', Nat.div_add_mod]
  simp [hmod]

theorem bytesOfWord_wordOfBytes {bs : List Byte} (h : bs.length = 8) : bytesOfWord (wordOfBytes bs) = bs := by
  refine List.ext_getElem? fun b => ?_
  by_cases hb : b < 8
  · rw [getElem?_bytesOfWord _ hb, List.getElem?_eq_getElem (by omega)]
    congr 1
    refine BitVec.eq_of_getLsbD_eq fun k hk => ?_
    have hdiv : (8 * b + k) / 8 = b := by omega
    have hmod : (8 * b + k) % 8 = k := by omega
    rw [BitVec.getLsbD_extractLsb', getLsbD_wordOfBytes bs (by omega), hdiv, hmod, List.getElem?_eq_getElem (by omega)]
    simp [hk]
  · rw [List.getElem?_eq_none (by rw [length_bytesOfWord]; omega), List.getElem?_eq_none (by omega)]

/-- Settles O43: the bytes by `getElem?_bytesOfWord`, the two inverses bit by bit. -/
theorem bytesAreLittleEndian : Obligations.BytesAreLittleEndian := by
  unfold Obligations.BytesAreLittleEndian
  refine ⟨fun v => ⟨length_bytesOfWord v, fun b hb => ?_⟩, wordOfBytes_bytesOfWord, fun _ => bytesOfWord_wordOfBytes⟩
  rw [getElem?_bytesOfWord v hb, BitVec.extractLsb', Nat.shiftRight_eq_div_pow]

/-! ### Decode of an encoded command -/

theorem decodeBytes_bytesOfWord (w : Word) : decodeBytes (bytesOfWord w) = decode w := by
  rw [decodeBytes, if_pos (length_bytesOfWord w), wordOfBytes_bytesOfWord]

/-- Decoding a word made of an operation code and a lane reads exactly that row of the table. -/
theorem decode_encodeFields {opc : Nat} (h : opc < 2 ^ 8) (lane : Nat) :
    decode (encodeFields opc lane) = decodeRow opc (BitVec.ofNat 16 lane) := by
  obtain ⟨hrsv0, hrsv1⟩ := Laws.ReservedFieldsZero.encodeFields_reserved h lane
  have hlane : laneField (encodeFields opc lane) = BitVec.ofNat 16 lane :=
    BitVec.eq_of_toNat_eq (by rw [laneField_encodeFields h, BitVec.toNat_ofNat])
  rw [decode, if_neg (by simp [hrsv0, hrsv1]), opcField_encodeFields h, hlane]

theorem toNat_ofNat_lane {lane : Nat} (h : laneFits lane) : (BitVec.ofNat 16 lane).toNat = lane := by
  rw [BitVec.toNat_ofNat, Nat.mod_eq_of_lt h]

/-- A row of the table that gives a lane its command decodes the word of that command, if the lane has 16 bits. -/
theorem decode_encodeFields_of_row {opc lane : Nat} {mk : Nat → Instr} (h : opc < 2 ^ 8)
    (hrow : ∀ f : BitVec 16, decodeRow opc f = .ok (mk f.toNat)) (hlane : laneFits lane) :
    decode (encodeFields opc lane) = .ok (mk lane) := by
  rw [decode_encodeFields h, hrow, toNat_ofNat_lane hlane]

theorem decode_encode {i : Instr} (h : i.wf = true) : decode (encode i) = .ok i := by
  cases i with
  | mulmod1 => exact decode_encodeFields (by decide) 0
  | mulmod2 => exact decode_encodeFields (by decide) 0
  | stepz l => exact decode_encodeFields_of_row (by decide) (fun _ => rfl) (of_decide_eq_true h)
  | stepw l => exact decode_encodeFields_of_row (by decide) (fun _ => rfl) (of_decide_eq_true h)
  | inittab => exact decode_encodeFields (by decide) 0
  | treadz => exact decode_encodeFields (by decide) 0
  | treadw => exact decode_encodeFields (by decide) 0
  | seed l => exact decode_encodeFields_of_row (by decide) (fun _ => rfl) (of_decide_eq_true h)
  | next l => exact decode_encodeFields_of_row (by decide) (fun _ => rfl) (of_decide_eq_true h)
  | ldstate l => exact decode_encodeFields_of_row (by decide) (fun _ => rfl) (of_decide_eq_true h)
  | rdstate l => exact decode_encodeFields_of_row (by decide) (fun _ => rfl) (of_decide_eq_true h)

/-- Settles O1: `decode_encode`, and the bytes of a word put together are the word. -/
theorem decodeInvertsEncode : Obligations.DecodeInvertsEncode := by
  unfold Obligations.DecodeInvertsEncode
  intro i h
  rw [decodeBytes_bytesOfWord]
  exact ⟨decode_encode h, decode_encode h⟩

/-! ### Encode of a decoded word -/

/-- A word without a reserved bit is made of its operation code and its lane. -/
theorem encodeFields_of_fields {w : Word} (hrsv0 : rsv0Field w = 0#8) (hrsv1 : rsv1Field w = 0#32) :
    encodeFields (opcField w).toNat (laneField w).toNat = w := by
  have hopc := (opcField w).isLt
  have hlane := (laneField w).isLt
  obtain ⟨h0, h1⟩ := Laws.ReservedFieldsZero.encodeFields_reserved hopc (laneField w).toNat
  refine word_eq_of_fields (BitVec.eq_of_toNat_eq (opcField_encodeFields hopc _)) (h0.trans hrsv0.symm)
    (BitVec.eq_of_toNat_eq ?_) (h1.trans hrsv1.symm)
  rw [laneField_encodeFields hopc, Nat.mod_eq_of_lt hlane]

/-- A command read off a row of the table is well-formed, and its word is made of that row's operation code and lane. -/
theorem encode_of_decodeRow {opc : Nat} {lane : BitVec 16} {i : Instr} (h : decodeRow opc lane = .ok i) :
    i.wf = true ∧ encode i = encodeFields opc lane.toNat := by
  have hlane : ∀ {j}, laneless lane j = .ok i → j.wf = true → encode j = encodeFields opc 0 →
      i.wf = true ∧ encode i = encodeFields opc lane.toNat := by
    intro j hj hwf henc
    obtain ⟨rfl, rfl⟩ := laneless_eq_ok.mp hj
    exact ⟨hwf, henc⟩
  unfold decodeRow at h
  split at h
  case h_12 => cases h -- the codes no row is assigned to
  case h_1 | h_2 | h_5 | h_6 | h_7 => exact hlane h rfl rfl
  all_goals
    cases h
    exact ⟨decide_eq_true lane.isLt, rfl⟩

/-- Settles O2: the row gives the fields back by `encode_of_decodeRow`, and the fields give the word. -/
theorem encodeInvertsDecode : Obligations.EncodeInvertsDecode := by
  unfold Obligations.EncodeInvertsDecode
  intro w i h
  obtain ⟨hrsv1, hrsv0, hrow⟩ := decode_eq_ok.mp h
  obtain ⟨hwf, henc⟩ := encode_of_decodeRow hrow
  exact ⟨hwf, henc.trans (encodeFields_of_fields hrsv0 hrsv1)⟩

/-! ### Written-out words -/

/-- Settles O4: the legal words are encodings of their commands, and the others are evaluated. -/
theorem writtenWordsDecode : Obligations.WrittenWordsDecode := by
  unfold Obligations.WrittenWordsDecode
  exact ⟨by decide, decode_encode (i := .mulmod1) rfl, by decide, decode_encode (i := .seed 3) rfl, decode_encode (i := .next 65535) rfl,
    by decide, by decide, decode_encode (i := .ldstate 2) rfl, decode_encode (i := .rdstate 0) rfl, by decide⟩

end Sys2Proof
end

section
/-! PROOF. The commands with a lane and the table reads, one by one (41_generators.md, 42_jump_ahead.md, 43_combined_stream.md,
44_state_access.md). A check that passes drops out of the pseudocode and a check that fails ends it, so that each command's statement is
its checks' lemmas one after the other and one record update. -/

namespace Sys2Proof.Machine

open Sys2Proof.Statements

/-! ### The words of a command with a lane -/

/-- A row of the table that gives every lane its command has a word for each 16-bit lane, and a reserved bit makes any word ILLEGAL
(30_encoding.md R72, R73). -/
theorem hasLaneWords_of_row {opc : Nat} {mk : Nat → Instr} (h : opc < 2 ^ 8)
    (hrow : ∀ f : BitVec 16, decodeRow opc f = .ok (mk f.toNat)) : hasLaneWords opc mk := by
  refine ⟨fun l hl => ?_, fun s hb _ hrsv => State.coreTurn_of_isError hb (decode_isError_iff.mpr ?_)⟩
  · rw [← decode_encodeFields_of_row h hrow hl, encodeFields, Nat.mod_eq_of_lt hl]
  · exact hrsv.elim (fun h0 => .inr (.inl h0)) .inl

/-! ### Checks that pass and checks that fail -/

section Checks

variable {s : State} {l : Nat}

theorem State.checkLane_of_lt (r : Except ErrCode State) (h : l < s.params.LANES) : s.checkLane l r = r := by
  rw [State.checkLane, decide_eq_true h, require, if_pos rfl]

theorem State.checkLane_of_le (r : Except ErrCode State) (h : s.params.LANES ≤ l) : s.checkLane l r = .error .lane :=
  State.checkLane_eq_error.mpr (.inl ⟨h, rfl⟩)

theorem State.withTables_of_some {T : Tables} (rest : Tables → Except ErrCode State) (h : s.tables = some T) :
    s.withTables rest = rest T := by
  rw [State.withTables, h]

theorem State.withTables_of_TV (rest : Tables → Except ErrCode State) (h : s.TV = false) : s.withTables rest = .error .notables :=
  State.withTables_eq_error.mpr (.inl ⟨Option.not_isSome_iff_eq_none.mp (Bool.eq_false_iff.mp h), rfl⟩)

theorem State.withContext_of_some {c : Lane} (rest : Lane → Except ErrCode State) (h : s.lane l = some c) :
    s.withContext l rest = rest c := by
  rw [State.withContext, h]

theorem State.withContext_of_V (rest : Lane → Except ErrCode State) (h : s.V l = false) :
    s.withContext l rest = .error .nostate :=
  State.withContext_eq_error.mpr (.inl ⟨Option.not_isSome_iff_eq_none.mp (Bool.eq_false_iff.mp h), rfl⟩)

/-- With TV = 1 there are tables. -/
theorem State.exists_tables (h : s.TV = true) : ∃ T, s.tables = some T := Option.isSome_iff_exists.mp h

/-- A command whose pseudocode raises a non-zero code changes STATUS only (60_exceptions.md R203, R204). -/
theorem State.perform_error_eq_failed {e : ErrCode} (he : e ≠ .none) : s.perform (.error e) = .next (failed s e) := by
  rw [State.perform_error, State.raiseError_eq s he, failed]

/-- On a lane that does not exist a command ends with LANE, whatever follows the check. -/
theorem State.perform_checkLane_of_le (r : Except ErrCode State) (h : s.params.LANES ≤ l) :
    s.perform (s.checkLane l r) = .next (failed s .lane) := by
  rw [State.checkLane_of_le r h, State.perform_error_eq_failed (by decide)]

/-- A list of contexts with lane l written is what `laneWritten` says of two states. -/
theorem laneWritten_of_lanes {t : State} {c : Lane} (h : t.lanes = laneInsert s.lanes l c) : laneWritten s t l c := by
  unfold laneWritten State.lane
  rw [h]
  exact ⟨laneLookup_laneInsert_same _ _ _, fun i hi => laneLookup_laneInsert_other _ _ hi⟩

/-! ### Commands on a valid lane: STEPZ, STEPW, NEXT, RDSTATE -/

/-- On a valid lane below LANES the command is what it does with the lane's context. -/
theorem State.perform_withContext {c : Lane} (rest : Lane → Except ErrCode State) (hl : l < s.params.LANES)
    (hc : s.lane l = some c) : s.perform (s.checkLane l (s.withContext l rest)) = s.perform (rest c) := by
  rw [State.checkLane_of_lt _ hl, State.withContext_of_some _ hc]

/-- A lane below LANES that is not valid ends the command with NOSTATE. -/
theorem State.perform_withContext_of_V (rest : Lane → Except ErrCode State) (hl : l < s.params.LANES) (hV : s.V l = false) :
    s.perform (s.checkLane l (s.withContext l rest)) = .next (failed s .nostate) := by
  rw [State.checkLane_of_lt _ hl, State.withContext_of_V _ hV, State.perform_error_eq_failed (by decide)]

end Checks

/-- The pseudocode of STEPZ, with its step written out (41_generators.md R120, R123). -/
theorem exec_stepz (l : Nat) (s : State) :
    exec (.stepz l) s = s.perform (s.checkLane l (s.withContext l fun c =>
      .ok ((s.setLane l { z := BitVec.ofNat 53 (Config.A1 * c.z.toNat % Config.M1), w := c.w }).setRes0
        (Config.A1 * c.z.toNat % Config.M1)))) := rfl

/-- The pseudocode of STEPW, with its step written out (41_generators.md R122, R124). -/
theorem exec_stepw (l : Nat) (s : State) :
    exec (.stepw l) s = s.perform (s.checkLane l (s.withContext l fun c =>
      .ok ((s.setLane l { z := c.z, w := BitVec.ofNat 32 (Config.A2 * c.w.toNat % Config.M2) }).setRes0
        (Config.A2 * c.w.toNat % Config.M2)))) := rfl

/-- The pseudocode of NEXT (43_combined_stream.md R171). -/
theorem exec_next (l : Nat) (s : State) :
    exec (.next l) s = s.perform (s.checkLane l (s.withContext l fun c =>
      .ok ((s.setLane l { z := BitVec.ofNat 53 (stepZ c.z.toNat), w := BitVec.ofNat 32 (stepW c.w.toNat) }).setRes0
        (combine (stepW c.w.toNat) (stepZ c.z.toNat))))) := rfl

/-- The pseudocode of RDSTATE (44_state_access.md R181). -/
theorem exec_rdstate (l : Nat) (s : State) :
    exec (.rdstate l) s = s.perform (s.checkLane l (s.withContext l fun c =>
      .ok ((s.setRes0 c.z.toNat).setRes1 c.w.toNat))) := rfl

/-- Settles O17: on a valid lane the command writes the lane and RES0; the two failures are those of its two checks. -/
theorem stepzAdvancesZ : Obligations.StepzAdvancesZ := by
  unfold Obligations.StepzAdvancesZ
  refine ⟨hasLaneWords_of_row (by decide) fun _ => rfl, fun s l => ?_⟩
  rw [exec_stepz]
  refine ⟨fun c hl hc => ?_, State.perform_checkLane_of_le _, State.perform_withContext_of_V _⟩
  rw [State.perform_withContext _ hl hc, State.perform_ok, State.finish_eq]
  exact ⟨_, rfl, laneWritten_of_lanes rfl, rfl⟩

/-- Settles O18: on a valid lane the command writes the lane and RES0; the two failures are those of its two checks. -/
theorem stepwAdvancesW : Obligations.StepwAdvancesW := by
  unfold Obligations.StepwAdvancesW
  refine ⟨hasLaneWords_of_row (by decide) fun _ => rfl, fun s l => ?_⟩
  rw [exec_stepw]
  refine ⟨fun c hl hc => ?_, State.perform_checkLane_of_le _, State.perform_withContext_of_V _⟩
  rw [State.perform_withContext _ hl hc, State.perform_ok, State.finish_eq]
  exact ⟨_, rfl, laneWritten_of_lanes rfl, rfl⟩

/-- Combine has 31 bits (43_combined_stream.md R170, R172). -/
theorem combine_lt (w z : Nat) : combine w z < 2 ^ 31 := by
  have hlt : (combine w z : Int) < 2 ^ 31 := natCast_combine w z ▸ Int.emod_lt_of_pos _ (by decide)
  exact_mod_cast hlt

/-- RES0 keeps the whole of Combine. -/
theorem toNat_ofNat_combine (w z : Nat) : (BitVec.ofNat 64 (combine w z)).toNat = combine w z := by
  rw [BitVec.toNat_ofNat, Nat.mod_eq_of_lt ((combine_lt w z).trans (by decide))]

/-- NEXT on a valid lane, as one record update. -/
theorem exec_next_of_lane {s : State} {l : Nat} {c : Lane} (hl : l < s.params.LANES) (hc : s.lane l = some c) :
    exec (.next l) s = .next { s with
      lanes := laneInsert s.lanes l { z := BitVec.ofNat 53 (stepZ c.z.toNat), w := BitVec.ofNat 32 (stepW c.w.toNat) },
      res0 := BitVec.ofNat 64 (combine (stepW c.w.toNat) (stepZ c.z.toNat)), err := .none, busy := false } := by
  rw [exec_next, State.perform_withContext _ hl hc, State.perform_ok, State.finish_eq]
  rfl

/-- Settles O23: the next state by `exec_next_of_lane`, its RES0 the combination, which 64 bits keep whole; the two failures are those of
its two checks. -/
theorem nextAdvancesBothGenerators : Obligations.NextAdvancesBothGenerators := by
  unfold Obligations.NextAdvancesBothGenerators
  refine ⟨hasLaneWords_of_row (by decide) fun _ => rfl, fun s l => ⟨fun c hl hc => ?_, ?_, ?_⟩⟩
  · refine ⟨_, exec_next_of_lane hl hc, laneWritten_of_lanes rfl, ?_, rfl⟩
    rw [toNat_ofNat_combine]
    exact natCast_combine _ _
  · exact State.perform_checkLane_of_le _
  · exact State.perform_withContext_of_V _

/-- Settles O25: on a valid lane the command copies the context to RES0 and RES1; the two failures are those of its two checks. -/
theorem rdstateReadsTheContext : Obligations.RdstateReadsTheContext := by
  unfold Obligations.RdstateReadsTheContext
  refine ⟨hasLaneWords_of_row (by decide) fun _ => rfl, fun s l => ?_⟩
  rw [exec_rdstate]
  refine ⟨fun c hl hc => ?_, State.perform_checkLane_of_le _, State.perform_withContext_of_V _⟩
  rw [State.perform_withContext _ hl hc, State.perform_ok, State.finish_eq, State.setRes1, State.setRes0]

/-! ### LDSTATE (44_state_access.md R180) -/

/-- The pseudocode of LDSTATE (44_state_access.md R180). -/
theorem exec_ldstate (l : Nat) (s : State) :
    exec (.ldstate l) s = s.perform (s.checkLane l (require s.operandsReduced .badstate (require s.operandsNonzero .zero
      (.ok (s.setLane l { z := BitVec.ofNat 53 s.opa.toNat, w := BitVec.ofNat 32 s.opb.toNat }))))) := rfl

theorem require_true (e : ErrCode) (r : Except ErrCode State) : require true e r = r := rfl

theorem require_false (e : ErrCode) (r : Except ErrCode State) : require false e r = .error e := rfl

/-- Settles O24: with LANE, BADSTATE and ZERO passed the command writes the lane, whose fields keep values below the moduli whole; each
failure is that of the first check that fails. -/
theorem ldstateLoadsTheContext : Obligations.LdstateLoadsTheContext := by
  unfold Obligations.LdstateLoadsTheContext
  refine ⟨hasLaneWords_of_row (by decide) fun _ => rfl, fun s l => ?_⟩
  rw [exec_ldstate]
  refine ⟨fun hl hz hzM hw hwM => ?_, State.perform_checkLane_of_le _, fun hl hbad => ?_, fun hl hzM hwM hzero => ?_⟩
  · have hreduced : s.operandsReduced = true := State.operandsReduced_iff.mpr ⟨hzM, hwM⟩
    have hnonzero : s.operandsNonzero = true := State.operandsNonzero_iff.mpr ⟨hz.ne', hw.ne'⟩
    rw [State.checkLane_of_lt _ hl, hreduced, hnonzero, require_true, require_true, State.perform_ok, State.finish_eq]
    exact ⟨_, _, rfl, laneWritten_of_lanes rfl, toNat_ofNat_z hzM, toNat_ofNat_w hwM, rfl⟩
  · have hreduced : s.operandsReduced = false := by
      rw [State.operandsReduced_eq_not_decide, decide_eq_true hbad, Bool.not_true]
    rw [State.checkLane_of_lt _ hl, hreduced, require_false, State.perform_error_eq_failed (by decide)]
  · have hreduced : s.operandsReduced = true := State.operandsReduced_iff.mpr ⟨hzM, hwM⟩
    have hnonzero : s.operandsNonzero = false := by
      rw [State.operandsNonzero_eq_not_decide, decide_eq_true hzero, Bool.not_true]
    rw [State.checkLane_of_lt _ hl, hreduced, require_true, hnonzero, require_false, State.perform_error_eq_failed (by decide)]

/-! ### Reading a table cell: TREADZ, TREADW (42_jump_ahead.md R150, R151) -/

section ReadCell

variable {s : State} (cell : Tables → Fin 11 → Fin 32 → Nat)

/-- The pseudocode that TREADZ and TREADW share, for the table that cell reads. -/
def readCell (s : State) : Except ErrCode State :=
  s.withTables fun T => withIndex s.tableIndex fun i j => .ok (s.setRes0 (cell T i j))

/-- With tables, and a row and a column in the operands, the cell goes to RES0. -/
theorem perform_readCell {T : Tables} {i : Fin 11} {j : Fin 32} (hT : s.tables = some T) (hi : s.opa.toNat = i.val)
    (hj : s.opb.toNat = j.val) :
    s.perform (readCell cell s) = .next { s with res0 := BitVec.ofNat 64 (cell T i j), err := .none, busy := false } := by
  rw [readCell, State.withTables_of_some _ hT, State.tableIndex_eq_some.mpr ⟨hi, hj⟩, withIndex, State.perform_ok, State.finish_eq,
    State.setRes0]

theorem perform_readCell_of_TV (h : s.TV = false) : s.perform (readCell cell s) = .next (failed s .notables) := by
  rw [readCell, State.withTables_of_TV _ h, State.perform_error_eq_failed (by decide)]

theorem perform_readCell_outside (hTV : s.TV = true) (hout : 10 < s.opa.toNat ∨ 31 < s.opb.toNat) :
    s.perform (readCell cell s) = .next (failed s .tindex) := by
  obtain ⟨T, hT⟩ := State.exists_tables hTV
  have hnone : s.tableIndex = .none := State.tableIndex_eq_none.mpr (by omega)
  rw [readCell, State.withTables_of_some _ hT, hnone, withIndex, State.perform_error_eq_failed (by decide)]

end ReadCell

theorem exec_treadz (s : State) : exec .treadz s = s.perform (readCell Tables.tzCell s) := rfl

theorem exec_treadw (s : State) : exec .treadw s = s.perform (readCell Tables.twCell s) := rfl

/-- Settles O20: the word by `hasOneWord_of_decode`, the three outcomes those of reading a cell of TZ. -/
theorem treadzReadsTheCell : Obligations.TreadzReadsTheCell := by
  unfold Obligations.TreadzReadsTheCell
  refine ⟨hasOneWord_of_decode (by decide) (by decide), fun s => ?_⟩
  rw [exec_treadz]
  exact ⟨fun T i j => perform_readCell Tables.tzCell, perform_readCell_of_TV _, perform_readCell_outside _⟩

/-- Settles O21: the word by `hasOneWord_of_decode`, the three outcomes those of reading a cell of TW. -/
theorem treadwReadsTheCell : Obligations.TreadwReadsTheCell := by
  unfold Obligations.TreadwReadsTheCell
  refine ⟨hasOneWord_of_decode (by decide) (by decide), fun s => ?_⟩
  rw [exec_treadw]
  exact ⟨fun T i j => perform_readCell Tables.twCell, perform_readCell_of_TV _, perform_readCell_outside _⟩

/-! ### SEED (42_jump_ahead.md R152) -/

/-- The state after SEED wrote the jumped values z and w to lane l and to the results. -/
def seeded (s : State) (l z w : Nat) : State := { s with
  lanes := laneInsert s.lanes l { z := BitVec.ofNat 53 z, w := BitVec.ofNat 32 w },
  res0 := BitVec.ofNat 64 z, res1 := BitVec.ofNat 64 w, err := .none, busy := false }

/-- The writes of SEED, then finish(), are the one record update `seeded`. -/
theorem finish_setLane_eq_seeded (s : State) (l z w : Nat) :
    (((s.setLane l { z := BitVec.ofNat 53 z, w := BitVec.ofNat 32 w }).setRes0 z).setRes1 w).finish = seeded s l z w := by
  rw [State.finish_eq, State.setRes1, State.setRes0, State.setLane, seeded]

/-- The pseudocode of SEED (42_jump_ahead.md R152). -/
theorem exec_seed (l : Nat) (s : State) :
    exec (.seed l) s = s.perform (s.checkLane l (s.withTables fun T => require (s.operandsFit 55) .range
      (.ok (((s.setLane l { z := BitVec.ofNat 53 (jumpZ T s.opa.toNat), w := BitVec.ofNat 32 (jumpW T s.opb.toNat) }).setRes0
        (jumpZ T s.opa.toNat)).setRes1 (jumpW T s.opb.toNat))))) := rfl

/-- SEED with every check passed. -/
theorem exec_seed_of_tables {s : State} {l : Nat} {T : Tables} (hl : l < s.params.LANES) (hT : s.tables = some T)
    (ha : s.opa.toNat < 2 ^ 55) (hb : s.opb.toNat < 2 ^ 55) :
    exec (.seed l) s = .next (seeded s l (jumpZ T s.opa.toNat) (jumpW T s.opb.toNat)) := by
  rw [exec_seed, State.checkLane_of_lt _ hl, State.withTables_of_some _ hT, State.operandsFit_iff.mpr ⟨ha, hb⟩, require_true,
    State.perform_ok, finish_setLane_eq_seeded]

theorem laneWritten_seeded (s : State) (l z w : Nat) :
    laneWritten s (seeded s l z w) l { z := BitVec.ofNat 53 z, w := BitVec.ofNat 32 w } :=
  laneWritten_of_lanes rfl

/-- `seeded` in the words of the statement: all but the lanes is written out. -/
theorem seeded_eq (s : State) (l z w : Nat) : seeded s l z w = { s with
    lanes := (seeded s l z w).lanes, res0 := BitVec.ofNat 64 z, res1 := BitVec.ofNat 64 w, err := .none, busy := false } := rfl

/-- Settles O22: with LANE, NOTABLES and RANGE passed the next state is `seeded`; each failure is that of the first check that fails. -/
theorem seedJumpsBothGenerators : Obligations.SeedJumpsBothGenerators := by
  unfold Obligations.SeedJumpsBothGenerators
  refine ⟨hasLaneWords_of_row (by decide) fun _ => rfl, fun s l => ⟨fun T hl hT ha hb => ?_, fun hl => ?_, fun hl hTV => ?_,
    fun hl hTV hwide => ?_⟩⟩
  · exact ⟨_, exec_seed_of_tables hl hT ha hb, laneWritten_seeded s l _ _, seeded_eq s l _ _⟩
  · rw [exec_seed, State.perform_checkLane_of_le _ hl]
  · rw [exec_seed, State.checkLane_of_lt _ hl, State.withTables_of_TV _ hTV, State.perform_error_eq_failed (by decide)]
  · obtain ⟨T, hT⟩ := State.exists_tables hTV
    rw [exec_seed, State.checkLane_of_lt _ hl, State.withTables_of_some _ hT, State.operandsFit_eq_false.mpr hwide, require_false,
      State.perform_error_eq_failed (by decide)]

end Sys2Proof.Machine
end

section
/-! PROOF. The host's accesses (20_memory.md R50 to R57, 70_reset_and_hazards.md R233 to R236). An accepted access is an access of one register
(`State.accepts_cases`), the BUSY protocol is a list of registers (`State.breaksBusyProtocol_read`, `State.breaksBusyProtocol_write`), and
a read that is answered gives `State.regValue` but for STATUS while BUSY = 1 (`State.readReg_eq_answer`). -/

namespace Sys2Proof.Machine

/-! ### Accesses as accesses of a register -/

/-- A register stands at its own offset only. -/
theorem eq_offset_of_regAt {off : Nat} {r : Reg} (h : regAt off = some r) : off = r.offset := by
  rcases regAt_eq_some.mp h with
    ⟨rfl, rfl⟩ | ⟨rfl, rfl⟩ | ⟨rfl, rfl⟩ | ⟨rfl, rfl⟩ | ⟨rfl, rfl⟩ | ⟨rfl, rfl⟩ | ⟨rfl, rfl⟩ | ⟨rfl, rfl⟩ <;> rfl

theorem Reg.offset_injective {r r' : Reg} (h : r.offset = r'.offset) : r = r' :=
  Option.some_injective _ ((regAt_offset r).symm.trans (h ▸ regAt_offset r'))

/-- An accepted access is an 8-byte access at the offset of a register. -/
theorem State.accepts_cases {s : State} {a : Access} (h : s.accepts a) :
    (∃ r : Reg, a = .read (s.params.BASE + r.offset) 8) ∨
    (∃ (r : Reg) (data : List Byte), data.length = 8 ∧ a = .write (s.params.BASE + r.offset) data) := by
  obtain ⟨r, hr⟩ := Option.isSome_iff_exists.mp (State.accepts_iff_target.mp h)
  obtain ⟨hsize, off, haddr, hoff⟩ := State.target_eq_some.mp hr
  rw [eq_offset_of_regAt hoff] at haddr
  cases a with
  | read addr size => exact .inl ⟨r, congrArg₂ Access.read haddr hsize⟩
  | write addr data => exact .inr ⟨r, data, hsize, congrArg (Access.write · data) haddr⟩

theorem State.access_read (s : State) (r : Reg) : s.access (.read (s.params.BASE + r.offset) 8) = s.readReg r := by
  simp only [State.access, State.target_offset]

theorem State.access_write (s : State) (r : Reg) {data : List Byte} (hd : data.length = 8) :
    s.access (.write (s.params.BASE + r.offset) data) = s.writeReg r (wordOfBytes data) := by
  simp only [State.access, hd, State.target_offset]

/-- Of the reads, the BUSY protocol forbids those of RES0 and RES1 while BUSY = 1 (70_reset_and_hazards.md R235). -/
theorem State.breaksBusyProtocol_read {s : State} {r : Reg} {n : Nat} :
    s.breaksBusyProtocol (.read (s.params.BASE + r.offset) n) ↔ s.busy = true ∧ r ∈ [.res0, .res1] := by
  cases r <;> simp [State.breaksBusyProtocol, Reg.offset]

/-- Of the writes, the BUSY protocol forbids those to OPA, OPB and CMD while BUSY = 1 (70_reset_and_hazards.md R234). -/
theorem State.breaksBusyProtocol_write {s : State} {r : Reg} {data : List Byte} :
    s.breaksBusyProtocol (.write (s.params.BASE + r.offset) data) ↔ s.busy = true ∧ r ∈ [.opa, .opb, .cmd] := by
  cases r <;> simp [State.breaksBusyProtocol, Reg.offset]

/-! ### Writes -/

/-- With BUSY = 0 the write of a register that 70_reset_and_hazards.md R234 protects is made. -/
theorem State.writeWhenIdle_of_idle {s : State} (h : s.busy = false) (t : State) : s.writeWhenIdle t = .next t := by
  simp [State.writeWhenIdle, h]

/-- A write to another register than OPA, OPB and CMD is ignored (20_memory.md R54, R55). -/
theorem State.writeReg_ignored {r : Reg} (h : r ∉ [.opa, .opb, .cmd]) (s : State) (v : Word) : s.writeReg r v = .next s := by
  cases r with
  | opa | opb | cmd => simp at h
  | status | res0 | res1 | cfg | reserved => rfl

/-- A host step that writes a word to a register, one event later. -/
theorem step_host_wr {s : State} {rest : List Event} (r : Reg) {v : Word}
    (h : s.events = .host (.write (s.params.BASE + r.offset) (bytesOfWord v)) :: rest) :
    step s = State.writeReg { s with events := rest } r v := by
  rw [step_host_write r (length_bytesOfWord v) h, wordOfBytes_bytesOfWord]

theorem step_wr_opa {s : State} {rest : List Event} {v : Word} (hb : s.busy = false)
    (h : s.events = .host (.write (s.params.BASE + Reg.opa.offset) (bytesOfWord v)) :: rest) :
    step s = .next { s with opa := v, events := rest } :=
  (step_host_wr .opa h).trans (State.writeWhenIdle_of_idle (s := { s with events := rest }) hb _)

theorem step_wr_opb {s : State} {rest : List Event} {v : Word} (hb : s.busy = false)
    (h : s.events = .host (.write (s.params.BASE + Reg.opb.offset) (bytesOfWord v)) :: rest) :
    step s = .next { s with opb := v, events := rest } :=
  (step_host_wr .opb h).trans (State.writeWhenIdle_of_idle (s := { s with events := rest }) hb _)

/-- With BUSY = 0 a write to CMD latches the word (10_state.md R27). -/
theorem step_wr_cmd {s : State} {rest : List Event} {v : Word} (hb : s.busy = false)
    (h : s.events = .host (.write (s.params.BASE + Reg.cmd.offset) (bytesOfWord v)) :: rest) :
    step s = .next { s with pcmd := v, busy := true, events := rest } :=
  (step_host_wr .cmd h).trans (State.writeWhenIdle_of_idle (s := { s with events := rest }) hb _)

/-! ### Reads -/

/-- The value a read of a register answers, but for STATUS while BUSY = 1 (20_memory.md R51). -/
def State.regValue (s : State) : Reg → Word
  | .opa => s.opa
  | .opb => s.opb
  | .cmd => 0#64
  | .status => s.idleStatus
  | .res0 => s.res0
  | .res1 => s.res1
  | .cfg => s.cfg
  | .reserved => 0#64

/-- A read answers the register's value. While BUSY = 1 this leaves out STATUS, which draws a free value, and the result registers, which
may not be read. -/
theorem State.readReg_eq_answer {s : State} {r : Reg} (h : s.busy = true → r ∉ [.status, .res0, .res1]) :
    s.readReg r = .next (s.answer (s.regValue r)) := by
  cases r with
  | opa | opb | cmd | cfg | reserved => rfl
  | status | res0 | res1 =>
    have hb : s.busy = false := Bool.eq_false_iff.mpr fun hb => absurd (h hb) (by decide)
    simp [State.readReg, State.readWhenIdle, State.regValue, hb]

/-- A read that is answered gave the host some bytes and drew at most a free value: no register changes (20_memory.md R57). -/
theorem State.readReg_frame {s t : State} {r : Reg} (h : s.readReg r = .next t) :
    ∃ x, t = { s with returned := x :: s.returned, draws := t.draws } := by
  rcases State.readReg_cases h with
    ⟨-, rfl⟩ | ⟨-, rfl⟩ | ⟨-, rfl⟩ | ⟨-, -, rfl⟩ | ⟨-, -, rfl⟩ | ⟨-, -, rfl⟩ | ⟨-, -, rfl⟩ | ⟨-, rfl⟩ <;> exact ⟨_, rfl⟩

/-- A result register that answered was read with BUSY = 0. -/
theorem State.not_result_of_readReg {s t : State} {r : Reg} (h : s.readReg r = .next t) (hb : s.busy = true) :
    r ∉ [.res0, .res1] := by
  cases r with
  | res0 | res1 => simp [State.readReg, State.readWhenIdle, hb] at h
  | opa | opb | cmd | status | cfg | reserved => decide

/-- A step whose next event is a read reads a register. -/
theorem step_host_read_cases {s t : State} {addr size : Nat} {rest : List Event} (he : s.events = .host (.read addr size) :: rest)
    (h : step s = .next t) :
    ∃ r : Reg, size = 8 ∧ addr = s.params.BASE + r.offset ∧ State.readReg { s with events := rest } r = .next t := by
  rw [step_host he] at h
  rcases State.access_cases h with ⟨_, r, ⟨⟩, hr, hread⟩ | ⟨_, _, _, ⟨⟩, -⟩
  obtain ⟨-, off, haddr, hoff⟩ := State.target_eq_some.mp hr
  exact ⟨r, rfl, haddr.trans (congrArg (s.params.BASE + ·) (eq_offset_of_regAt hoff)), hread⟩

/-- Settles O37: a read changes what `State.readReg_frame` says; where it answers the register's value, the second read finds the same
value in a block that has not changed. -/
theorem readsHaveNoSideEffects : Obligations.ReadsHaveNoSideEffects := by
  unfold Obligations.ReadsHaveNoSideEffects
  constructor
  · intro s t addr size rest he h
    obtain ⟨r, -, -, hread⟩ := step_host_read_cases he h
    exact State.readReg_frame hread
  · intro s t addr size rest hnot he h
    obtain ⟨r, rfl, rfl, hread⟩ := step_host_read_cases he h
    have hvalue : s.busy = true → r ∉ [.status, .res0, .res1] := by
      intro hb
      have hstatus : r ≠ .status := by
        rintro rfl
        simp [hb, Reg.offset] at hnot
      exact List.not_mem_cons_of_ne_of_not_mem hstatus (State.not_result_of_readReg hread hb)
    cases hread.symm.trans (State.readReg_eq_answer hvalue)
    exact ⟨_, bytesOfWord (s.regValue r), (step_host_read r rfl).trans (State.readReg_eq_answer hvalue), rfl⟩

/-! ### The map of the window (20_memory.md R51) -/

/-- The registers in the order of their offsets. -/
def Reg.inOrder : List Reg := [.opa, .opb, .cmd, .status, .res0, .res1, .cfg, .reserved]

theorem Reg.offset_of_inOrder {n : Nat} {r : Reg} (h : Reg.inOrder[n]? = some r) : r.offset = 8 * n := by
  obtain ⟨hn, -⟩ := List.getElem?_eq_some_iff.mp h
  have hn8 : n < 8 := hn
  interval_cases n <;> cases h <;> rfl

/-- STATUS with BUSY = 0, its fields from bit 1 up (10_state.md R33). -/
theorem State.idleStatus_eq (s : State) :
    s.idleStatus = BitVec.ofNat 64 (s.TV.toNat * 2 + s.sticky.toNat * 4 + s.err.code.toNat * 16) := by
  rw [State.idleStatus]
  congr 1
  ring

/-- Settles O35: the list of the statement is the registers' values in order, and the read reaches the n-th register. -/
theorem idleReadAnswersTheMappedRegister : Obligations.IdleReadAnswersTheMappedRegister := by
  unfold Obligations.IdleReadAnswersTheMappedRegister
  intro s n v rest hb he hv
  rw [← State.idleStatus_eq] at hv
  have hmap : (Reg.inOrder.map s.regValue)[n]? = some v := hv
  rw [List.getElem?_map, Option.map_eq_some_iff] at hmap
  obtain ⟨r, hr, rfl⟩ := hmap
  rw [← Reg.offset_of_inOrder hr] at he
  rw [step_host_read r he, State.readReg_eq_answer (by simp [hb])]
  rfl

/-- Settles O34: the write stores the word that its bytes make, and the read answers the register. -/
theorem operandRegistersReadBack : Obligations.OperandRegistersReadBack := by
  unfold Obligations.OperandRegistersReadBack
  intro s v rest hb
  constructor
  · intro he
    exact ⟨_, step_wr_opa hb he, step_host_read .opa rfl⟩
  · intro he
    exact ⟨_, step_wr_opb hb he, step_host_read .opb rfl⟩

/-- Settles O38: the write latches the word that its bytes make; a read of CMD answers 0. -/
theorem commandWriteLatchesTheWord : Obligations.CommandWriteLatchesTheWord := by
  unfold Obligations.CommandWriteLatchesTheWord
  exact ⟨fun s v rest hb he => step_wr_cmd hb he, fun s rest he => step_host_read .cmd he⟩

/-! ### Accesses while BUSY = 1 (70_reset_and_hazards.md R233) -/

/-- The registers that the statement names answer their values while BUSY = 1. -/
theorem exists_reg_readable_while_busy {s : State} {n : Nat} {v : Word}
    (h : (n, v) ∈ [(0, s.opa), (1, s.opb), (2, 0#64), (6, BitVec.ofNat 64 s.params.LANES), (7, 0#64)]) :
    ∃ r : Reg, r.offset = 8 * n ∧ r ≠ .status ∧ s.regValue r = v := by
  simp only [List.mem_cons, Prod.mk.injEq, List.not_mem_nil, or_false] at h
  rcases h with ⟨rfl, rfl⟩ | ⟨rfl, rfl⟩ | ⟨rfl, rfl⟩ | ⟨rfl, rfl⟩ | ⟨rfl, rfl⟩
  · exact ⟨.opa, rfl, by decide, rfl⟩
  · exact ⟨.opb, rfl, by decide, rfl⟩
  · exact ⟨.cmd, rfl, by decide, rfl⟩
  · exact ⟨.cfg, rfl, by decide, rfl⟩
  · exact ⟨.reserved, rfl, by decide, rfl⟩

/-- Two 8-byte reads of the window at the same address read the same register. -/
theorem reg_eq_of_read_eq {base n : Nat} {r r' : Reg} (h : Access.read (base + r.offset) 8 = .read (base + 8 * n) 8)
    (hr : r'.offset = 8 * n) : r = r' := by
  injection h with haddr
  exact Reg.offset_injective (by omega)

/-- Settles O40: an allowed read is one of STATUS, which draws a free value, or of a register that answers its value; an allowed write is
ignored. -/
theorem otherAccessesWhileBusyAreHarmless : Obligations.OtherAccessesWhileBusyAreHarmless := by
  unfold Obligations.OtherAccessesWhileBusyAreHarmless
  intro s a rest hb he hacc hkeeps
  rcases State.accepts_cases hacc with ⟨r, rfl⟩ | ⟨r, data, hd, rfl⟩
  · have hresult : r ∉ [.res0, .res1] := fun hr => hkeeps (State.breaksBusyProtocol_read.mpr ⟨hb, hr⟩)
    rw [step_host_read r he]
    by_cases hstatus : r = .status
    · subst hstatus
      refine ⟨_, State.readReg_status_of_busy hb, rfl, fun n v hmem heq => ?_, nofun⟩
      obtain ⟨r', hoff, hne, -⟩ := exists_reg_readable_while_busy hmem
      exact absurd (reg_eq_of_read_eq heq hoff).symm hne
    · refine ⟨_, State.readReg_eq_answer fun _ => List.not_mem_cons_of_ne_of_not_mem hstatus hresult, rfl, fun n v hmem heq => ?_, nofun⟩
      obtain ⟨r', hoff, -, rfl⟩ := exists_reg_readable_while_busy hmem
      rw [reg_eq_of_read_eq heq hoff]
      rfl
  · have hignored : r ∉ [.opa, .opb, .cmd] := fun hr => hkeeps (State.breaksBusyProtocol_write.mpr ⟨hb, hr⟩)
    rw [step_host_write r hd he, State.writeReg_ignored hignored]
    exact ⟨_, rfl, rfl, fun _ _ _ => nofun, fun _ _ _ => rfl⟩

/-! ### Which accesses end in a fault -/

/-- A read of a register ends in a next state, or in a fault where the BUSY protocol forbids it. -/
theorem State.readReg_outcome (s : State) (r : Reg) :
    (¬ (s.busy = true ∧ r ∈ [.res0, .res1]) ∧ ∃ t, s.readReg r = .next t) ∨
    ((s.busy = true ∧ r ∈ [.res0, .res1]) ∧ ∃ f, s.readReg r = .fault f) := by
  cases r <;> cases hb : s.busy <;> simp [State.readReg, State.readWhenIdle, hb]

/-- A write of a register ends in a next state, or in a fault where the BUSY protocol forbids it. -/
theorem State.writeReg_outcome (s : State) (r : Reg) (v : Word) :
    (¬ (s.busy = true ∧ r ∈ [.opa, .opb, .cmd]) ∧ ∃ t, s.writeReg r v = .next t) ∨
    ((s.busy = true ∧ r ∈ [.opa, .opb, .cmd]) ∧ ∃ f, s.writeReg r v = .fault f) := by
  cases r <;> cases hb : s.busy <;> simp [State.writeReg, State.writeWhenIdle, hb]

/-- An access ends in a next state when it is accepted and keeps the BUSY protocol, and else in a fault. -/
theorem State.access_outcome (s : State) (a : Access) :
    ((s.accepts a ∧ ¬ s.breaksBusyProtocol a) ∧ ∃ t, s.access a = .next t) ∨
    (¬ (s.accepts a ∧ ¬ s.breaksBusyProtocol a) ∧ ∃ f, s.access a = .fault f) := by
  by_cases hacc : s.accepts a
  · rcases State.accepts_cases hacc with ⟨r, rfl⟩ | ⟨r, data, hd, rfl⟩
    · rw [State.breaksBusyProtocol_read, State.access_read]
      simpa only [hacc, true_and, not_not] using s.readReg_outcome r
    · rw [State.breaksBusyProtocol_write, State.access_write s r hd]
      simpa only [hacc, true_and, not_not] using s.writeReg_outcome r (wordOfBytes data)
  · have htarget : s.target a.addr a.size = .none := by
      rwa [State.accepts_iff_target, Option.not_isSome_iff_eq_none] at hacc
    exact .inr ⟨fun h => hacc h.1, _, State.access_eq_busError.mpr htarget⟩

end Sys2Proof.Machine
end

section
/-! PROOF. What every step keeps (10_state.md R23 to R26, R28, R33, R35; 60_exceptions.md R203, R206, R209). `exec_writes` says of every
command what it can write: results, one lane context below LANES, or the built tables; the invariant, the valid bits and the frame of a
command follow from that list. `exec_map` says what a command reads: an update of the state that no check and no operand sees is carried
through the command unchanged. -/

namespace Sys2Proof.Machine

open Sys2Proof.Statements

/-! ### What a command can write -/

/-- The states that the writes of a successful command lead to from s. A written context is in range if s meets the invariant. -/
inductive CommandWrites (s : State) : State → Prop
  | results (r0 r1 : Word) : CommandWrites s { s with res0 := r0, res1 := r1 }
  | lane {l : Nat} (c : Lane) (hl : l < s.params.LANES) (hc : s.Inv → c.inRange) (r0 r1 : Word) :
      CommandWrites s { s with lanes := laneInsert s.lanes l c, res0 := r0, res1 := r1 }
  | tables : CommandWrites s { s with tables := some builtTables }

/-- A command's pseudocode ends, if it succeeds, in a state that it may write. -/
def EndsInWrites (s : State) (r : Except ErrCode State) : Prop := ∀ u, r = .ok u → CommandWrites s u

namespace EndsInWrites

variable {s : State}

theorem ok {u : State} (h : CommandWrites s u) : EndsInWrites s (.ok u) := by
  rintro _ ⟨⟩
  exact h

theorem require {r : Except ErrCode State} {ok : Bool} {e : ErrCode} (h : ok = true → EndsInWrites s r) :
    EndsInWrites s (require ok e r) := by
  intro u hu
  obtain ⟨hok, hr⟩ := require_eq_ok.mp hu
  exact h hok u hr

theorem checkLane {r : Except ErrCode State} {l : Nat} (h : l < s.params.LANES → EndsInWrites s r) :
    EndsInWrites s (s.checkLane l r) := by
  intro u hu
  obtain ⟨hl, hr⟩ := State.checkLane_eq_ok.mp hu
  exact h hl u hr

theorem withTables {rest : Tables → Except ErrCode State} (h : ∀ T, s.tables = some T → EndsInWrites s (rest T)) :
    EndsInWrites s (s.withTables rest) := by
  intro u hu
  obtain ⟨T, hT, hr⟩ := State.withTables_eq_ok.mp hu
  exact h T hT u hr

theorem withContext {l : Nat} {rest : Lane → Except ErrCode State} (h : ∀ c, s.lane l = some c → EndsInWrites s (rest c)) :
    EndsInWrites s (s.withContext l rest) := by
  intro u hu
  obtain ⟨c, hc, hr⟩ := State.withContext_eq_ok.mp hu
  exact h c hc u hr

theorem readCell (cell : Tables → Fin 11 → Fin 32 → Nat) : EndsInWrites s (readCell cell s) := by
  refine withTables fun T _ u hu => ?_
  obtain ⟨i, j, -, hr⟩ := withIndex_eq_ok.mp hu
  exact ok (.results _ _) u hr

/-- A performed command completes with some code after its writes, an error being the case of no write. -/
theorem perform {r : Except ErrCode State} {t : State} (h : EndsInWrites s r) (ht : s.perform r = .next t) :
    ∃ u e, CommandWrites s u ∧ t = u.complete e := by
  rcases State.perform_cases ht with ⟨u, hu, rfl⟩ | ⟨e, -, rfl⟩
  · exact ⟨u, .none, h u hu, rfl⟩
  · exact ⟨s, e, .results s.res0 s.res1, rfl⟩

end EndsInWrites

/-! ### The written contexts are in range (10_state.md R24) -/

/-- A state of the large generator other than 0 steps to one that its field keeps whole. -/
theorem stepZ_inRange {z : Nat} (hpos : 0 < z) (hlt : z < Config.M1) :
    0 < (BitVec.ofNat 53 (stepZ z)).toNat ∧ (BitVec.ofNat 53 (stepZ z)).toNat < Config.M1 := by
  rw [toNat_ofNat_z (stepZ_lt z)]
  exact ⟨Nat.pos_of_ne_zero fun h => hpos.ne' ((mulMod_eq_zero_iff A1_coprime_M1 hlt).mp h), stepZ_lt z⟩

/-- A state of the small generator other than 0 steps to one that its field keeps whole. -/
theorem stepW_inRange {w : Nat} (hpos : 0 < w) (hlt : w < Config.M2) :
    0 < (BitVec.ofNat 32 (stepW w)).toNat ∧ (BitVec.ofNat 32 (stepW w)).toNat < Config.M2 := by
  rw [toNat_ofNat_w (stepW_lt w)]
  exact ⟨Nat.pos_of_ne_zero fun h => hpos.ne' ((mulMod_eq_zero_iff A2_coprime_M2 hlt).mp h), stepW_lt w⟩

theorem Lane.inRange.stepZ {c : Lane} (h : c.inRange) : Lane.inRange { c with z := BitVec.ofNat 53 (stepZ c.z.toNat) } := by
  obtain ⟨hz, hzM, hw, hwM⟩ := h
  obtain ⟨hz', hzM'⟩ := stepZ_inRange hz hzM
  exact ⟨hz', hzM', hw, hwM⟩

theorem Lane.inRange.stepW {c : Lane} (h : c.inRange) : Lane.inRange { c with w := BitVec.ofNat 32 (stepW c.w.toNat) } := by
  obtain ⟨hz, hzM, hw, hwM⟩ := h
  obtain ⟨hw', hwM'⟩ := stepW_inRange hw hwM
  exact ⟨hz, hzM, hw', hwM'⟩

/-- Values in range make a context in range. -/
theorem Lane.inRange_ofNat {z w : Nat} (hz : z ≠ 0) (hzM : z < Config.M1) (hw : w ≠ 0) (hwM : w < Config.M2) :
    Lane.inRange { z := BitVec.ofNat 53 z, w := BitVec.ofNat 32 w } := by
  unfold Lane.inRange
  rw [toNat_ofNat_z hzM, toNat_ofNat_w hwM]
  exact ⟨Nat.pos_of_ne_zero hz, hzM, Nat.pos_of_ne_zero hw, hwM⟩

/-- Jump-ahead by right tables gives a context in range (42_jump_ahead.md R147). -/
theorem Lane.inRange_jump {T : Tables} {j k : Nat} (hT : T.right) (hj : j < 2 ^ 55) (hk : k < 2 ^ 55) :
    Lane.inRange { z := BitVec.ofNat 53 (jumpZ T j), w := BitVec.ofNat 32 (jumpW T k) } :=
  Lane.inRange_ofNat (ne_zero_of_coprime (jumpZ_coprime_three hT hj) (by decide)) (jumpZ_lt T j)
    (ne_zero_of_coprime (jumpW_coprime_M2 hT hk) (by decide)) (jumpW_lt T k)

/-- All that a command can do: writes that `CommandWrites` lists, and its completion with a code. -/
theorem exec_writes {i : Instr} {s t : State} (h : exec i s = .next t) : ∃ u e, CommandWrites s u ∧ t = u.complete e := by
  cases i with
  | mulmod1 => exact EndsInWrites.perform (.require fun _ => .ok (.results _ _)) h
  | mulmod2 => exact EndsInWrites.perform (.require fun _ => .ok (.results _ _)) h
  | stepz l =>
    exact EndsInWrites.perform (.checkLane fun hl => .withContext fun c hc =>
      .ok (.lane _ hl (fun hs => (hs.contextsInRange l c hc).stepZ) _ _)) h
  | stepw l =>
    exact EndsInWrites.perform (.checkLane fun hl => .withContext fun c hc =>
      .ok (.lane _ hl (fun hs => (hs.contextsInRange l c hc).stepW) _ _)) h
  | inittab => exact EndsInWrites.perform (.ok .tables) h
  | treadz => exact EndsInWrites.perform (.readCell Tables.tzCell) h
  | treadw => exact EndsInWrites.perform (.readCell Tables.twCell) h
  | seed l =>
    rw [exec_seed] at h
    refine EndsInWrites.perform (.checkLane fun hl => .withTables fun T hT => .require fun hfit => ?_) h
    obtain ⟨ha, hb⟩ := State.operandsFit_iff.mp hfit
    exact .ok (.lane _ hl (fun hs => Lane.inRange_jump (hs.tablesRight T hT) ha hb) _ _)
  | next l =>
    exact EndsInWrites.perform (.checkLane fun hl => .withContext fun c hc =>
      .ok (.lane _ hl (fun hs => (hs.contextsInRange l c hc).stepZ.stepW) _ _)) h
  | ldstate l =>
    refine EndsInWrites.perform (.checkLane fun hl => .require fun hreduced => .require fun hnonzero => ?_) h
    obtain ⟨hzM, hwM⟩ := State.operandsReduced_iff.mp hreduced
    obtain ⟨hz, hw⟩ := State.operandsNonzero_iff.mp hnonzero
    exact .ok (.lane _ hl (fun _ => Lane.inRange_ofNat hz hzM hw hwM) _ _)
  | rdstate l => exact EndsInWrites.perform (.checkLane fun _ => .withContext fun c _ => .ok (.results _ _)) h

/-- Settles O32: none of the writes of `CommandWrites`, and no completion, is to one of these fields. -/
theorem commandsNeverWriteOperands : Obligations.CommandsNeverWriteOperands := by
  unfold Obligations.CommandsNeverWriteOperands
  intro i s t h
  obtain ⟨u, e, hu, rfl⟩ := exec_writes h
  cases hu <;> exact ⟨rfl, rfl, rfl, rfl, rfl, rfl, rfl⟩

/-! ### What a step can do -/

/-- All that a turn of the core agent can do to the state: nothing, or the writes of a command and its completion. -/
theorem State.coreTurn_writes {s t : State} (h : s.coreTurn = .next t) :
    t = s ∨ ∃ u e, CommandWrites s u ∧ t = u.complete e := by
  rcases State.coreTurn_cases h with ⟨-, rfl⟩ | ⟨-, i, -, hexec⟩ | ⟨-, -, rfl⟩
  · exact .inl rfl
  · exact .inr (exec_writes hexec)
  · exact .inr ⟨s, .illegal, .results s.res0 s.res1, rfl⟩

/-- Of the block, a host access writes OPA, OPB and the command latch only (20_memory.md R54 to R57). -/
theorem State.access_frame {s t : State} {a : Access} (h : s.access a = .next t) :
    t = { s with opa := t.opa, opb := t.opb, busy := t.busy, pcmd := t.pcmd, returned := t.returned, draws := t.draws } := by
  rcases State.access_cases h with ⟨addr, r, -, -, hread⟩ | ⟨addr, data, r, -, -, -, hwrite⟩
  · obtain ⟨x, ht⟩ := State.readReg_frame hread
    rw [ht]
  · rcases State.writeReg_cases hwrite with ⟨-, -, rfl⟩ | ⟨-, -, rfl⟩ | ⟨-, -, rfl⟩ | ⟨-, rfl⟩ <;> rfl

/-- All that a step can do, the two ways to a turn of the core agent being one. -/
theorem step_effects {s t : State} (h : step s = .next t) :
    ∃ rest, (coreNext s rest ∧ State.coreTurn { s with events := rest } = .next t) ∨
      (∃ a, s.events = .host a :: rest ∧ State.access { s with events := rest } a = .next t) ∨
      (s.events = .reset :: rest ∧ t = State.assertReset { s with events := rest }) := by
  rcases step_cases h with ⟨he, -⟩ | ⟨rest, he, hturn⟩ | ⟨a, rest, he, haccess⟩ | ⟨rest, he, ht⟩
  · have hnext : coreNext s [] := .inr ⟨he, rfl⟩
    exact ⟨[], .inl ⟨hnext, step_of_coreNext hnext ▸ h⟩⟩
  · exact ⟨rest, .inl ⟨.inl he, hturn⟩⟩
  · exact ⟨rest, .inr (.inl ⟨a, he, haccess⟩)⟩
  · exact ⟨rest, .inr (.inr ⟨he, ht⟩)⟩

/-! ### The invariant -/

/-- A block with no context, no tables and no error meets the invariant. -/
theorem State.Inv.of_cleared {s : State} (hlanes : s.lanes = []) (htables : s.tables = .none) (herr : s.err = .none) : s.Inv where
  lanesCanonical := by rw [hlanes, lanesWf]
  lanesExist := by simp [hlanes]
  contextsInRange := by simp [State.lane, hlanes, laneLookup]
  tablesRight := by simp [htables]
  stickyCoversErr := fun h => absurd herr h

/-- Settles O11: at reset there is no context, there are no tables and no error. -/
theorem resetMeetsTheInvariant : Obligations.ResetMeetsTheInvariant := by
  unfold Obligations.ResetMeetsTheInvariant
  exact ⟨fun p => .of_cleared (State.atReset_lanes p) (State.atReset_tables p) (State.atReset_err p), .of_cleared rfl rfl rfl⟩

namespace State.Inv

/-- The invariant speaks of the parameters, the contexts, the tables, ERR and STICKY only. -/
theorem of_eq {s t : State} (h : s.Inv) (hparams : t.params = s.params) (hlanes : t.lanes = s.lanes) (htables : t.tables = s.tables)
    (herr : t.err = s.err) (hsticky : t.sticky = s.sticky) : t.Inv where
  lanesCanonical := hlanes ▸ h.lanesCanonical
  lanesExist := by rw [hlanes, hparams]; exact h.lanesExist
  contextsInRange := by unfold State.lane; rw [hlanes]; exact h.contextsInRange
  tablesRight := htables ▸ h.tablesRight
  stickyCoversErr := by rw [herr, hsticky]; exact h.stickyCoversErr

/-- Writing a context in range to a lane below LANES keeps the invariant. -/
theorem setLane {s : State} (h : s.Inv) {l : Nat} {c : Lane} (hl : l < s.params.LANES) (hc : c.inRange) : (s.setLane l c).Inv where
  lanesCanonical := lanesWf_laneInsert l c h.lanesCanonical
  lanesExist := by
    intro p hp
    rcases mem_laneInsert hp with rfl | hp
    · exact hl
    · exact h.lanesExist p hp
  contextsInRange := by
    intro k d hd
    by_cases hk : k = l
    · subst hk
      rw [State.setLane_lane_same] at hd
      cases hd
      exact hc
    · rw [State.setLane_lane_other s c hk] at hd
      exact h.contextsInRange k d hd
  tablesRight := h.tablesRight
  stickyCoversErr := h.stickyCoversErr

theorem setTables {s : State} (h : s.Inv) {T : Tables} (hT : T.right) : State.Inv { s with tables := some T } where
  lanesCanonical := h.lanesCanonical
  lanesExist := h.lanesExist
  contextsInRange := h.contextsInRange
  tablesRight := by
    rintro _ ⟨⟩
    exact hT
  stickyCoversErr := h.stickyCoversErr

/-- Completion keeps the invariant: STICKY remembers the code that ERR becomes (60_exceptions.md R203). -/
theorem complete {s : State} (h : s.Inv) (e : ErrCode) : (s.complete e).Inv where
  lanesCanonical := h.lanesCanonical
  lanesExist := h.lanesExist
  contextsInRange := h.contextsInRange
  tablesRight := h.tablesRight
  stickyCoversErr := by
    intro he
    rw [State.complete_err] at he
    rw [State.complete_sticky, decide_eq_true he, Bool.or_true]

theorem writes {s u : State} (h : s.Inv) (hu : CommandWrites s u) : u.Inv := by
  cases hu with
  | results r0 r1 => exact h.of_eq rfl rfl rfl rfl rfl
  | lane c hl hc r0 r1 => exact (h.setLane hl (hc h)).of_eq rfl rfl rfl rfl rfl
  | tables => exact h.setTables builtTables_right

end State.Inv

/-- Settles O10: the writes of a command and its completion keep the invariant, an access changes none of its parts, and a reset clears
them. -/
theorem stepKeepsTheInvariant : Obligations.StepKeepsTheInvariant := by
  unfold Obligations.StepKeepsTheInvariant
  intro s t hs h
  obtain ⟨rest, ⟨-, hturn⟩ | ⟨a, -, haccess⟩ | ⟨-, rfl⟩⟩ := step_effects h
  · have hs' : State.Inv { s with events := rest } := hs.of_eq rfl rfl rfl rfl rfl
    rcases State.coreTurn_writes hturn with rfl | ⟨u, e, hu, rfl⟩
    · exact hs'
    · exact (hs'.writes hu).complete e
  · rw [State.access_frame haccess]
    exact hs.of_eq rfl rfl rfl rfl rfl
  · exact .of_cleared rfl rfl rfl

/-! ### The parameters and the valid bits -/

/-- Settles O13: neither a command nor an access nor a reset writes the parameters. -/
theorem stepKeepsTheParameters : Obligations.StepKeepsTheParameters := by
  unfold Obligations.StepKeepsTheParameters
  intro s t h
  obtain ⟨rest, ⟨-, hturn⟩ | ⟨a, -, haccess⟩ | ⟨-, rfl⟩⟩ := step_effects h
  · rcases State.coreTurn_writes hturn with rfl | ⟨u, e, hu, rfl⟩
    · rfl
    · cases hu <;> rfl
  · rw [State.access_frame haccess]
  · rfl

/-- A valid lane stays valid when any lane is written. -/
theorem State.setLane_keeps_V {s : State} {k : Nat} (l : Nat) (c : Lane) (h : s.V k = true) : (s.setLane l c).V k = true := by
  unfold State.V at *
  by_cases hk : k = l
  · rw [hk, State.setLane_lane_same, Option.isSome_some]
  · rwa [State.setLane_lane_other s c hk]

/-- No write of a command clears TV, a valid bit or STICKY. -/
theorem CommandWrites.keeps_valid_bits {s u : State} (h : CommandWrites s u) :
    (s.TV = true → u.TV = true) ∧ (∀ l, s.V l = true → u.V l = true) ∧ (s.sticky = true → u.sticky = true) := by
  cases h with
  | results r0 r1 => exact ⟨id, fun _ => id, id⟩
  | lane c hl hc r0 r1 => exact ⟨id, fun k hk => State.setLane_keeps_V _ c hk, id⟩
  | tables => exact ⟨fun _ => rfl, fun _ => id, id⟩

/-- Settles O14: the writes of a command clear none of these bits, completion adds to STICKY only, and an access changes none. -/
theorem onlyResetClearsValidBits : Obligations.OnlyResetClearsValidBits := by
  unfold Obligations.OnlyResetClearsValidBits
  intro s t hnoreset h
  obtain ⟨rest, ⟨-, hturn⟩ | ⟨a, -, haccess⟩ | ⟨he, -⟩⟩ := step_effects h
  · rcases State.coreTurn_writes hturn with rfl | ⟨u, e, hu, rfl⟩
    · exact ⟨id, fun _ => id, id⟩
    · obtain ⟨hTV, hV, hsticky⟩ := hu.keeps_valid_bits
      refine ⟨hTV, hV, fun hset => ?_⟩
      rw [State.complete_sticky, hsticky hset, Bool.true_or]
  · rw [State.access_frame haccess]
    exact ⟨id, fun _ => id, id⟩
  · exact absurd he (hnoreset rest)

/-! ### When a step stops (60_exceptions.md R209) -/

/-- Every command ends in a next state. -/
theorem exec_isNext (i : Instr) (s : State) : ∃ t, exec i s = .next t := by
  obtain ⟨r, hr, -⟩ := exec_runsChecks i s
  exact ⟨_, hr⟩

/-- With a legal word pending the core agent's turn runs its command (20_memory.md R59). -/
theorem State.coreTurn_of_ok {s : State} {i : Instr} (hb : s.busy = true) (hd : decode s.pcmd = .ok i) : s.coreTurn = exec i s := by
  simp only [State.coreTurn, hb, if_true, State.fetch, hd]

theorem State.coreTurn_of_idle {s : State} (hb : s.busy = false) : s.coreTurn = .next s := by
  simp [State.coreTurn, hb]

theorem State.coreTurn_isNext (s : State) : ∃ t, s.coreTurn = .next t := by
  cases hb : s.busy with
  | false => exact ⟨s, State.coreTurn_of_idle hb⟩
  | true =>
    obtain ⟨t, ht, -⟩ := State.coreTurn_completes hb
    exact ⟨t, ht⟩

/-- A step ends in a next state when the host makes no error, and else in a fault. -/
theorem step_outcome (s : State) : (s.hostInOrder ∧ ∃ t, step s = .next t) ∨ (¬ s.hostInOrder ∧ ∃ f, step s = .fault f) := by
  have inOrder_of_noAccess (h : ∀ a rest, s.events ≠ .host a :: rest) : s.hostInOrder := fun a rest he => absurd he (h a rest)
  have inOrder_iff {a rest} (he : s.events = .host a :: rest) : s.hostInOrder ↔ s.accepts a ∧ ¬ s.breaksBusyProtocol a := by
    simp [State.hostInOrder, he]
  have core_isNext {rest} (hnext : coreNext s rest) : ∃ t, step s = .next t :=
    step_of_coreNext hnext ▸ State.coreTurn_isNext _
  match he : s.events with
  | [] => exact .inl ⟨inOrder_of_noAccess (by simp [he]), core_isNext (.inr ⟨he, rfl⟩)⟩
  | .core :: rest => exact .inl ⟨inOrder_of_noAccess (by simp [he]), core_isNext (.inl he)⟩
  | .reset :: rest => exact .inl ⟨inOrder_of_noAccess (by simp [he]), _, step_reset he⟩
  | .host a :: rest =>
    rw [inOrder_iff he, step_host he]
    exact State.access_outcome { s with events := rest } a

/-- Settles O12: a reading of `step_outcome`. -/
theorem stepFaultsOnHostErrorsOnly : Obligations.StepFaultsOnHostErrorsOnly := by
  unfold Obligations.StepFaultsOnHostErrorsOnly State.safe
  intro s
  rcases step_outcome s with ⟨hin, t, ht⟩ | ⟨hout, f, hf⟩
  · simp [ht, hin]
  · simp [hf, hout]

/-- Settles O6: the step is the core agent's turn, which runs the decoded command. -/
theorem stepRunsThePendingCommand : Obligations.StepRunsThePendingCommand := by
  unfold Obligations.StepRunsThePendingCommand
  intro s rest i hnext hb hd
  rw [step_of_coreNext hnext]
  exact State.coreTurn_of_ok (s := { s with events := rest }) hb hd

/-- Settles O7: the step is the core agent's turn, which is idle. -/
theorem coreTurnNeedsBusy : Obligations.CoreTurnNeedsBusy := by
  unfold Obligations.CoreTurnNeedsBusy
  intro s rest hnext hb
  rw [step_of_coreNext hnext]
  exact State.coreTurn_of_idle (s := { s with events := rest }) hb

/-! ### What a command reads -/

/-- An update of the state that no check sees and that goes past every write of a command. -/
structure Unseen (f : State → State) : Prop where
  params : ∀ s, (f s).params = s.params
  lanes : ∀ s, (f s).lanes = s.lanes
  tables : ∀ s, (f s).tables = s.tables
  setLane : ∀ s l c, (f s).setLane l c = f (s.setLane l c)
  setTables : ∀ s T, ({ f s with tables := T } : State) = f { s with tables := T }
  setRes0 : ∀ s v, (f s).setRes0 v = f (s.setRes0 v)
  setRes1 : ∀ s v, (f s).setRes1 v = f (s.setRes1 v)

/-- Two runs of a command's pseudocode succeed in a state and in f of it, or raise the same error. -/
inductive MapsTo (f : State → State) : Except ErrCode State → Except ErrCode State → Prop
  | ok {u u' : State} (h : u' = f u) : MapsTo f (.ok u) (.ok u')
  | error (e : ErrCode) : MapsTo f (.error e) (.error e)

namespace Unseen

variable {f : State → State} (hf : Unseen f) {s : State} {r r' : Except ErrCode State}

include hf

theorem checkLane {l : Nat} (h : MapsTo f r r') : MapsTo f (s.checkLane l r) ((f s).checkLane l r') := by
  unfold State.checkLane require
  rw [hf.params]
  split
  · exact h
  · exact .error .lane

theorem withTables {rest rest' : Tables → Except ErrCode State} (h : ∀ T, MapsTo f (rest T) (rest' T)) :
    MapsTo f (s.withTables rest) ((f s).withTables rest') := by
  unfold State.withTables
  rw [hf.tables]
  cases s.tables with
  | none => exact .error .notables
  | some T => exact h T

theorem withContext {l : Nat} {rest rest' : Lane → Except ErrCode State} (h : ∀ c, MapsTo f (rest c) (rest' c)) :
    MapsTo f (s.withContext l rest) ((f s).withContext l rest') := by
  unfold State.withContext State.lane
  rw [hf.lanes]
  cases laneLookup s.lanes l with
  | none => exact .error .nostate
  | some c => exact h c

end Unseen

theorem MapsTo.require {f : State → State} {r r' : Except ErrCode State} {ok ok' : Bool} {e : ErrCode} (hok : ok' = ok)
    (h : MapsTo f r r') : MapsTo f (require ok e r) (require ok' e r') := by
  subst hok
  cases ok' with
  | false => exact .error e
  | true => exact h

theorem Unseen.readCell {f : State → State} (hf : Unseen f) {s : State} (cell : Tables → Fin 11 → Fin 32 → Nat)
    (hindex : (f s).tableIndex = s.tableIndex) : MapsTo f (readCell cell s) (readCell cell (f s)) := by
  refine hf.withTables fun T => ?_
  rw [hindex]
  rcases s.tableIndex with _ | ⟨i, j⟩
  · exact .error .tindex
  · exact .ok (hf.setRes0 _ _)

section SameOperands

variable {s s' : State} (ha : s'.opa = s.opa) (hb : s'.opb = s.opb)

include ha hb

/-! The checks of the operands read nothing else. -/

theorem State.operandsFit_congr (n : Nat) : s'.operandsFit n = s.operandsFit n := by
  simp only [State.operandsFit, State.opaNat, State.opbNat, ha, hb]

theorem State.operandsReduced_congr : s'.operandsReduced = s.operandsReduced := by
  simp only [State.operandsReduced, State.opaNat, State.opbNat, ha, hb]

theorem State.operandsNonzero_congr : s'.operandsNonzero = s.operandsNonzero := by
  simp only [State.operandsNonzero, State.opaNat, State.opbNat, ha, hb]

theorem State.tableIndex_congr : s'.tableIndex = s.tableIndex := by
  simp only [State.tableIndex, State.opaNat, State.opbNat, ha, hb]

end SameOperands

/-- The commands whose operands 30_encoding.md R76 marks as ignored. -/
def ignoresOperands : Instr → Bool
  | .inittab | .stepz _ | .stepw _ | .next _ | .rdstate _ => true
  | .mulmod1 | .mulmod2 | .treadz | .treadw | .seed _ | .ldstate _ => false

/-- The pseudocode of a command answers the same from s and from f s, but for f itself, where f is unseen and changes OPA and OPB at most
for a command that ignores them. -/
theorem exec_map {f : State → State} (hf : Unseen f) (i : Instr) (s : State)
    (hops : ignoresOperands i = false → (f s).opa = s.opa ∧ (f s).opb = s.opb) :
    ∃ r r', exec i s = s.perform r ∧ exec i (f s) = (f s).perform r' ∧ MapsTo f r r' := by
  cases i with
  | mulmod1 =>
    obtain ⟨ha, hb⟩ := hops rfl
    have hfs := exec_mulmod1 (f s)
    rw [ha, hb] at hfs
    exact ⟨_, _, exec_mulmod1 s, hfs, .require (State.operandsFit_congr ha hb 53) (.ok (hf.setRes0 _ _))⟩
  | mulmod2 =>
    obtain ⟨ha, hb⟩ := hops rfl
    have hfs := exec_mulmod2 (f s)
    rw [ha, hb] at hfs
    exact ⟨_, _, exec_mulmod2 s, hfs, .require (State.operandsFit_congr ha hb 32) (.ok (hf.setRes0 _ _))⟩
  | stepz l =>
    exact ⟨_, _, exec_stepz l s, exec_stepz l (f s), hf.checkLane (hf.withContext fun c => .ok (by rw [hf.setLane, hf.setRes0]))⟩
  | stepw l =>
    exact ⟨_, _, exec_stepw l s, exec_stepw l (f s), hf.checkLane (hf.withContext fun c => .ok (by rw [hf.setLane, hf.setRes0]))⟩
  | inittab => exact ⟨_, _, rfl, rfl, .ok (hf.setTables _ _)⟩
  | treadz =>
    obtain ⟨ha, hb⟩ := hops rfl
    exact ⟨_, _, exec_treadz s, exec_treadz (f s), hf.readCell Tables.tzCell (State.tableIndex_congr ha hb)⟩
  | treadw =>
    obtain ⟨ha, hb⟩ := hops rfl
    exact ⟨_, _, exec_treadw s, exec_treadw (f s), hf.readCell Tables.twCell (State.tableIndex_congr ha hb)⟩
  | seed l =>
    obtain ⟨ha, hb⟩ := hops rfl
    have hfs := exec_seed l (f s)
    rw [ha, hb] at hfs
    exact ⟨_, _, exec_seed l s, hfs, hf.checkLane (hf.withTables fun T =>
      .require (State.operandsFit_congr ha hb 55) (.ok (by rw [hf.setLane, hf.setRes0, hf.setRes1])))⟩
  | next l =>
    exact ⟨_, _, exec_next l s, exec_next l (f s), hf.checkLane (hf.withContext fun c => .ok (by rw [hf.setLane, hf.setRes0]))⟩
  | ldstate l =>
    obtain ⟨ha, hb⟩ := hops rfl
    have hfs := exec_ldstate l (f s)
    rw [ha, hb] at hfs
    exact ⟨_, _, exec_ldstate l s, hfs,
      hf.checkLane (.require (State.operandsReduced_congr ha hb) (.require (State.operandsNonzero_congr ha hb)
        (.ok (hf.setLane _ _ _))))⟩
  | rdstate l =>
    exact ⟨_, _, exec_rdstate l s, exec_rdstate l (f s), hf.checkLane (hf.withContext fun c => .ok (by rw [hf.setRes0, hf.setRes1]))⟩

/-- If f goes past completion too, a command takes f s to f of what it takes s to. -/
theorem exec_comm {f : State → State} (hf : Unseen f) (hcomplete : ∀ s e, (f s).complete e = f (s.complete e)) {i : Instr}
    {s t : State} (hops : ignoresOperands i = false → (f s).opa = s.opa ∧ (f s).opb = s.opb) (h : exec i s = .next t) :
    exec i (f s) = .next (f t) := by
  obtain ⟨r, r', hr, hfr, hmaps⟩ := exec_map hf i s hops
  rw [hfr]
  cases hr.symm.trans h
  cases hmaps with
  | ok hu => exact congrArg _ (hu ▸ hcomplete _ .none)
  | error e => exact congrArg _ (hcomplete s e)

/-- s with other operands. -/
def State.withOperands (a b : Word) (s : State) : State := { s with opa := a, opb := b }

theorem State.withOperands_unseen (a b : Word) : Unseen (State.withOperands a b) :=
  ⟨fun _ => rfl, fun _ => rfl, fun _ => rfl, fun _ _ _ => rfl, fun _ _ => rfl, fun _ _ => rfl, fun _ _ => rfl⟩

/-- Settles O30: other operands are unseen by the five commands that ignore them. -/
theorem ignoredOperandsHaveNoEffect : Obligations.IgnoredOperandsHaveNoEffect := by
  unfold Obligations.IgnoredOperandsHaveNoEffect
  intro i s t a b hi h
  have hignores : ignoresOperands i = true := by
    rcases hi with rfl | ⟨l, rfl | rfl | rfl | rfl⟩ <;> rfl
  exact exec_comm (State.withOperands_unseen a b) (fun _ _ => rfl) (fun hnot => absurd (hignores.symm.trans hnot) (by decide)) h

/-- s with another code and another memory of codes in STATUS. -/
def State.withErrors (e : ErrCode) (k : Bool) (s : State) : State := { s with err := e, sticky := k }

theorem State.withErrors_unseen (e : ErrCode) (k : Bool) : Unseen (State.withErrors e k) :=
  ⟨fun _ => rfl, fun _ => rfl, fun _ => rfl, fun _ _ _ => rfl, fun _ _ => rfl, fun _ _ => rfl, fun _ _ => rfl⟩

/-- Settles O31: other ERR and STICKY are unseen, and completion with a code replaces the one and adds the code to the other. -/
theorem earlierErrorsHaveNoEffect : Obligations.EarlierErrorsHaveNoEffect := by
  unfold Obligations.EarlierErrorsHaveNoEffect
  intro i s t e k h
  obtain ⟨r, r', hr, hfr, hmaps⟩ := exec_map (State.withErrors_unseen e k) i s fun _ => ⟨rfl, rfl⟩
  cases hr.symm.trans h
  cases hmaps with
  | ok hu =>
    subst hu
    exact hfr
  | error e' => exact hfr

end Sys2Proof.Machine
end

section
/-! PROOF. A call of a host program completes after every delay of the core agent (30_encoding.md R81, 70_reset_and_hazards.md R233, R236,
R237). The three writes leave the command pending (`runSteps_call_writes`); the n polls change only the record of the outside
(`runSteps_polls`), which the command does not see (`exec_withOutside`); so the last two steps end the same for every n. -/

namespace Sys2Proof.Machine

open Sys2Proof.Statements

/-! ### The record of the outside -/

/-- s with another record of the outside. -/
def State.withOutside (s : State) (events : List Event) (returned : List (List Byte)) (draws : Nat) : State :=
  { s with events := events, returned := returned, draws := draws }

theorem State.withOutside_unseen (events : List Event) (returned : List (List Byte)) (draws : Nat) :
    Unseen (State.withOutside · events returned draws) :=
  ⟨fun _ => rfl, fun _ => rfl, fun _ => rfl, fun _ _ _ => rfl, fun _ _ => rfl, fun _ _ => rfl, fun _ _ => rfl⟩

/-- A command does the same whatever the record of the outside. -/
theorem exec_withOutside {i : Instr} {s u : State} (h : exec i s = .next u) (events : List Event) (returned : List (List Byte))
    (draws : Nat) : exec i (s.withOutside events returned draws) = .next (u.withOutside events returned draws) :=
  exec_comm (State.withOutside_unseen events returned draws) (fun _ _ => rfl) (fun _ => ⟨rfl, rfl⟩) h

/-- After a command BUSY is 0 (60_exceptions.md R203). -/
theorem exec_busy {i : Instr} {s t : State} (h : exec i s = .next t) : t.busy = false := by
  obtain ⟨u, e, -, rfl⟩ := exec_writes h
  exact u.complete_busy e

/-! ### The steps of a call -/

theorem runSteps_succ {s t : State} (h : step s = .next t) (n : Nat) : runSteps (n + 1) s = runSteps n t := by
  rw [runSteps, h]

/-- The events of a call, one by one. -/
theorem Params.call_append (p : Params) (i : Instr) (a b : Word) (n : Nat) (rest : List Event) :
    p.call i a b n ++ rest =
      p.wr .opa a :: p.wr .opb b :: p.wr .cmd (encode i) :: (List.replicate n (p.rd .status) ++ .core :: p.rd .status :: rest) := by
  simp [Params.call, Params.cmd, Params.poll]

/-- s with the command word w pending on the operands a and b. -/
def State.withPending (s : State) (a b w : Word) (events : List Event) : State :=
  { s with opa := a, opb := b, pcmd := w, busy := true, events := events }

/-- The first three steps of a call store both operands and latch the command. -/
theorem runSteps_call_writes {s : State} {a b w : Word} {rest : List Event} (hb : s.busy = false)
    (he : s.events = s.params.wr .opa a :: s.params.wr .opb b :: s.params.wr .cmd w :: rest) (n : Nat) :
    runSteps (n + 3) s = runSteps n (s.withPending a b w rest) := by
  have hopb := step_wr_opb (s := { s with opa := a, events := s.params.wr .opb b :: s.params.wr .cmd w :: rest }) hb rfl
  have hcmd := step_wr_cmd (s := { s with opa := a, opb := b, events := s.params.wr .cmd w :: rest }) hb rfl
  rw [runSteps_succ (step_wr_opa hb he), runSteps_succ hopb, runSteps_succ hcmd, State.withPending]

/-- A poll with BUSY = 1 gives the host an answer and draws a free value. -/
theorem step_poll_busy {s : State} {rest : List Event} (hb : s.busy = true) (h : s.events = s.params.rd .status :: rest) :
    step s = .next (s.withOutside rest (bytesOfWord s.busyStatus :: s.returned) (s.draws + 1)) :=
  (step_host_read .status h).trans (State.readReg_status_of_busy (s := { s with events := rest }) hb)

/-- n polls with BUSY = 1 give the host n answers and draw n free values, and change nothing else. -/
theorem runSteps_polls {s : State} {n : Nat} {rest : List Event} (hb : s.busy = true)
    (h : s.events = List.replicate n (s.params.rd .status) ++ rest) (m : Nat) :
    ∃ xs : List (List Byte), xs.length = n ∧
      runSteps (n + m) s = runSteps m (s.withOutside rest (xs ++ s.returned) (s.draws + n)) := by
  induction n generalizing s with
  | zero =>
    have hrest : s.events = rest := h
    subst hrest
    exact ⟨[], rfl, by rw [Nat.zero_add]; rfl⟩
  | succ n ih =>
    rw [List.replicate_succ, List.cons_append] at h
    obtain ⟨xs, hlen, hrun⟩ := ih (s := s.withOutside (List.replicate n (s.params.rd .status) ++ rest)
      (bytesOfWord s.busyStatus :: s.returned) (s.draws + 1)) hb rfl
    refine ⟨xs ++ [bytesOfWord s.busyStatus], by rw [List.length_append, hlen, List.length_singleton], ?_⟩
    rw [Nat.succ_add, runSteps_succ (step_poll_busy hb h), hrun, List.append_assoc, List.singleton_append, Nat.add_comm n 1,
      ← Nat.add_assoc]
    rfl

/-- The last two steps of a call, from a block with the command i pending: the core agent's turn, then the poll that sees its result. -/
theorem runSteps_core_then_poll {s u : State} {i : Instr} {rest : List Event} (hi : i.wf = true) (hb : s.busy = true)
    (hp : s.pcmd = encode i) (he : s.events = .core :: s.params.rd .status :: rest) (hu : exec i s = .next u) :
    runSteps 2 s = .next ((u.withOutside rest s.returned s.draws).answer u.idleStatus) := by
  obtain ⟨-, -, -, hparams, -, -, -⟩ := commandsNeverWriteOperands i s u hu
  have hidle : u.busy = false := exec_busy hu
  have hturn : step s = .next (u.withOutside (s.params.rd .status :: rest) s.returned s.draws) := by
    rw [stepRunsThePendingCommand s _ i (.inl he) hb (hp ▸ decode_encode hi)]
    exact exec_withOutside hu _ _ _
  have hpoll : step (u.withOutside (s.params.rd .status :: rest) s.returned s.draws) =
      .next ((u.withOutside rest s.returned s.draws).answer u.idleStatus) := by
    rw [step_host_read (s := u.withOutside _ _ _) .status (congrArg (fun p : Params => p.rd .status :: rest) hparams.symm)]
    exact State.readReg_status_of_idle (s := u.withOutside rest s.returned s.draws) hidle
  exact (runSteps_succ hturn 1).trans (runSteps_succ hpoll 0)

/-- Settles O44: the three writes, the n polls, and the last two steps. -/
theorem callCompletesAfterEveryDelay : Obligations.CallCompletesAfterEveryDelay := by
  unfold Obligations.CallCompletesAfterEveryDelay
  intro s i a b n rest hi hb he
  obtain ⟨u, hu⟩ := exec_isNext i (s.withPending a b (encode i) rest)
  have hevents : u.events = rest := by
    obtain ⟨-, -, -, -, h, -, -⟩ := commandsNeverWriteOperands i _ u hu
    exact h
  rw [Params.call_append] at he
  have hwrites := runSteps_call_writes hb he (n + 2)
  obtain ⟨xs, hlen, hpolls⟩ := runSteps_polls (n := n) (rest := .core :: s.params.rd .status :: rest)
    (s := s.withPending a b (encode i) (List.replicate n (s.params.rd .status) ++ .core :: s.params.rd .status :: rest)) rfl rfl 2
  have hend := runSteps_core_then_poll
    (s := (s.withPending a b (encode i) rest).withOutside (.core :: s.params.rd .status :: rest) (xs ++ s.returned) (s.draws + n))
    hi rfl rfl rfl (exec_withOutside hu _ _ _)
  refine ⟨u, (u.withOutside rest (xs ++ s.returned) (s.draws + n)).answer u.idleStatus, hu,
    hwrites.trans (hpolls.trans hend), hevents ▸ rfl, ?_, rfl⟩
  rw [State.answer_returned, List.length_cons, State.withOutside, List.length_append, hlen, Nat.add_comm n]

end Sys2Proof.Machine
end

section
/-! PROOF. The multiplier's laws, the jumps against the steps, and the streams that NEXT produces (40_wide_modmul.md R105; 42_jump_ahead.md
R143, R144, R146; 43_combined_stream.md R172; 41_generators.md R123). A run of NEXT commands iterates both steps on the lane
(`repeatExec_next`), and n steps from a jump multiply it by the n-th power of the multiplier. -/

namespace Sys2Proof.Machine

open Sys2Proof.Statements

/-! ### The laws of the multiplier (40_wide_modmul.md R105) -/

theorem mulMod_comm (m x y : Nat) : mulMod m x y = mulMod m y x := by
  rw [mulMod, mulMod, Nat.mul_comm]

theorem mulMod_one (m x : Nat) : mulMod m x 1 = x % m := by
  rw [mulMod, Nat.mul_one]

theorem mulMod_assoc (m x y z : Nat) : mulMod m (mulMod m x y) z = mulMod m x (mulMod m y z) := by
  rw [mulMod, mulMod, mulMod, mulMod, Nat.mod_mul_mod, Nat.mul_mod_mod, Nat.mul_assoc]

/-- Settles O45: the laws of `mulMod` at both moduli. -/
theorem multiplierLaws : Obligations.MultiplierLaws := by
  unfold Obligations.MultiplierLaws
  exact ⟨fun x y => ⟨mulMod_comm _ x y, mulMod_comm _ x y⟩, fun x => ⟨mulMod_one _ x, mulMod_one _ x⟩,
    fun x y z => ⟨mulMod_assoc _ x y z, mulMod_assoc _ x y z⟩, fun x y => ⟨mulMod1_lt x y, mulMod2_lt x y⟩⟩

/-! ### The jumps as products (42_jump_ahead.md R143, R144) -/

/-- The accumulator of JumpZ after digit n, for any tables: reducing after each factor gives the reduced product. -/
theorem jumpZFold_eq_prod (T : Tables) (k n : Nat) (hn : n ≤ 10) :
    jumpZFold T k n hn % Config.M1 =
      2 ^ (digit k 0).val * (∏ i : Fin n, T.tzCell ⟨i.val, by omega⟩ (digit k (i.val + 1))) % Config.M1 := by
  induction n with
  | zero => rw [jumpZFold, Fin.prod_univ_zero, Nat.mul_one]
  | succ n ih =>
    rw [jumpZFold_succ, mulMod1, mulMod, Nat.mod_mod, Nat.mul_mod, ih, ← Nat.mul_mod, Fin.prod_univ_castSucc, ← mul_assoc]
    rfl

/-- The accumulator of JumpW after n digits, for any tables: reducing after each factor gives the reduced product. -/
theorem jumpWFold_eq_prod (T : Tables) (k n : Nat) (hn : n ≤ 11) :
    jumpWFold T k n hn % Config.M2 = (∏ i : Fin n, T.twCell ⟨i.val, by omega⟩ (digit k i.val)) % Config.M2 := by
  induction n with
  | zero => rw [jumpWFold, Fin.prod_univ_zero]
  | succ n ih =>
    rw [jumpWFold_succ, mulMod2, mulMod, Nat.mod_mod, Nat.mul_mod, ih, ← Nat.mul_mod, Fin.prod_univ_castSucc]
    rfl

/-- Settles O50: the products of all the digits, and the closing factors. -/
theorem jumpsAreTheLiteralProducts : Obligations.JumpsAreTheLiteralProducts := by
  unfold Obligations.JumpsAreTheLiteralProducts
  intro T k
  constructor
  · rw [jumpZ, mulMod1, mulMod, Nat.mul_mod, jumpZFold_eq_prod, ← Nat.mul_mod]
    rfl
  · rw [jumpW, mulMod2, mulMod, Nat.mul_mod, jumpWFold_eq_prod, ← Nat.mul_mod]

/-! ### The jumps advance with the steps (42_jump_ahead.md R146) -/

theorem stepZ_iterate {z : Nat} (hz : z < Config.M1) (n : Nat) : stepZ^[n] z = Config.A1 ^ n * z % Config.M1 :=
  mulMod_iterate Config.A1 hz n

theorem stepW_iterate {w : Nat} (hw : w < Config.M2) (n : Nat) : stepW^[n] w = Config.A2 ^ n * w % Config.M2 :=
  mulMod_iterate Config.A2 hw n

section RightTables

variable {T : Tables} (hT : T.right)

include hT

/-- n steps of Z from a jump: the power of A1 rises by n. -/
theorem stepZ_iterate_jumpZ {k : Nat} (hk : k < 2 ^ 55) (n : Nat) :
    stepZ^[n] (jumpZ T k) = 2 ^ (k % 32) * Config.A1 ^ (k / 32 + n) * Config.HZ % Config.M1 := by
  rw [stepZ_iterate (jumpZ_lt T k), jumpZ_of_right hT hk, Nat.mul_mod_mod]
  congr 1
  ring

/-- n steps of W from a jump: the power of A2 rises by n. -/
theorem stepW_iterate_jumpW {k : Nat} (hk : k < 2 ^ 55) (n : Nat) :
    stepW^[n] (jumpW T k) = Config.A2 ^ (k + 1 + n) % Config.M2 := by
  rw [stepW_iterate (jumpW_lt T k), jumpW_of_right hT hk, Nat.mul_mod_mod, ← pow_add, Nat.add_comm]

/-- 32 index units are one step of Z, for n steps at once. -/
theorem jumpZ_add_mul {k n : Nat} (hk : k + 32 * n < 2 ^ 55) : jumpZ T (k + 32 * n) = stepZ^[n] (jumpZ T k) := by
  rw [jumpZ_of_right hT hk, stepZ_iterate_jumpZ hT (by omega), Nat.add_mul_mod_self_left, Nat.add_mul_div_left _ _ (by decide)]

/-- One index unit is one step of W, for n steps at once. -/
theorem jumpW_add {k n : Nat} (hk : k + n < 2 ^ 55) : jumpW T (k + n) = stepW^[n] (jumpW T k) := by
  rw [jumpW_of_right hT hk, stepW_iterate_jumpW hT (by omega), Nat.add_right_comm]

theorem jumpZ_add_thirtyTwo {k : Nat} (hk : k + 32 < 2 ^ 55) : jumpZ T (k + 32) = stepZ (jumpZ T k) := by
  have h := jumpZ_add_mul hT (k := k) (n := 1) (by rwa [Nat.mul_one])
  rwa [Nat.mul_one, Function.iterate_one] at h

theorem jumpW_succ {k : Nat} (hk : k + 1 < 2 ^ 55) : jumpW T (k + 1) = stepW (jumpW T k) := by
  have h := jumpW_add hT (n := 1) hk
  rwa [Function.iterate_one] at h

theorem jumpW_eq_iterate {k : Nat} (hk : k < 2 ^ 55) : jumpW T k = stepW^[k + 1] 1 := by
  rw [jumpW_of_right hT hk, stepW_iterate (by decide), Nat.mul_one]

end RightTables

/-- Settles O52: the advances by the closed forms of n steps from a jump, the first values of JumpZ by evaluation of its closed form. -/
theorem jumpsAdvanceWithTheSteps : Obligations.JumpsAdvanceWithTheSteps := by
  unfold Obligations.JumpsAdvanceWithTheSteps
  intro T hT
  refine ⟨fun k hk => jumpZ_add_thirtyTwo hT hk, fun k hk => jumpW_succ hT hk, fun k hk => jumpW_eq_iterate hT hk, ?_, ?_, ?_⟩
  · exact (jumpZ_of_right hT (by decide)).trans (by decide)
  · exact (jumpZ_of_right hT (by decide)).trans (by decide)
  · exact (jumpZ_of_right hT (by decide)).trans (by decide)

/-- Refutes O55: from index 0, 32 steps of Z give A1 ^ 32 * HZ, and index 32 gives A1 * HZ, which differ modulo M1. -/
theorem not_thirtyTwoStepsOfZAreThirtyTwoIndices : ¬ Obligations.ThirtyTwoStepsOfZAreThirtyTwoIndices := by
  unfold Obligations.ThirtyTwoStepsOfZAreThirtyTwoIndices
  intro h
  have heq := h builtTables 0 builtTables_right (by decide)
  rw [stepZ_iterate_jumpZ builtTables_right (by decide), jumpZ_of_right builtTables_right (by decide)] at heq
  exact absurd heq (by decide)

/-! ### A run of NEXT commands (42_jump_ahead.md R146, its last bullet) -/

/-- NEXT on a valid lane completes, and leaves both steps on the lane and their combination in RES0. -/
theorem exec_next_steps {s : State} {l : Nat} {c : Lane} (hl : l < s.params.LANES) (hc : s.lane l = some c) :
    ∃ t d, exec (.next l) s = .next t ∧ t.params = s.params ∧ t.lane l = some d ∧ d.z.toNat = stepZ c.z.toNat ∧
      d.w.toNat = stepW c.w.toNat ∧ t.res0.toNat = combine d.w.toNat d.z.toNat := by
  have hz := toNat_ofNat_z (stepZ_lt c.z.toNat)
  have hw := toNat_ofNat_w (stepW_lt c.w.toNat)
  refine ⟨_, _, exec_next_of_lane hl hc, rfl, laneLookup_laneInsert_same _ _ _, hz, hw, ?_⟩
  rw [hz, hw]
  exact toNat_ofNat_combine _ _

/-- n NEXT commands iterate both steps on the lane. -/
theorem repeatExec_next {s : State} {l : Nat} {c : Lane} (hl : l < s.params.LANES) (hc : s.lane l = some c) (n : Nat) :
    ∃ t d, repeatExec (.next l) n s = .next t ∧ t.params = s.params ∧ t.lane l = some d ∧ d.z.toNat = stepZ^[n] c.z.toNat ∧
      d.w.toNat = stepW^[n] c.w.toNat ∧ (0 < n → t.res0.toNat = combine d.w.toNat d.z.toNat) := by
  induction n with
  | zero => exact ⟨s, c, rfl, rfl, hc, rfl, rfl, fun h => absurd h (Nat.lt_irrefl 0)⟩
  | succ n ih =>
    obtain ⟨t, d, hrun, hparams, hd, hz, hw, -⟩ := ih
    obtain ⟨u, e, hnext, hparams', he, hz', hw', hres⟩ := exec_next_steps (hparams ▸ hl) hd
    refine ⟨u, e, ?_, hparams'.trans hparams, he, ?_, ?_, fun _ => hres⟩
    · rw [repeatExec, hrun]
      exact hnext
    · rw [hz', hz, Function.iterate_succ_apply']
    · rw [hw', hw, Function.iterate_succ_apply']

/-- Settles O53: SEED leaves the jumps on the lane, and the NEXT commands iterate the steps from them. -/
theorem seedThenNextsFollowTheStream : Obligations.SeedThenNextsFollowTheStream := by
  unfold Obligations.SeedThenNextsFollowTheStream
  intro s T l n hl hs hT ha hb
  obtain ⟨hlane, -⟩ := laneWritten_seeded s l (jumpZ T s.opa.toNat) (jumpW T s.opb.toNat)
  obtain ⟨t, c, hrun, -, hc, hz, hw, hres⟩ :=
    repeatExec_next (s := seeded s l (jumpZ T s.opa.toNat) (jumpW T s.opb.toNat)) hl hlane n
  rw [toNat_ofNat_z (jumpZ_lt T _)] at hz
  rw [toNat_ofNat_w (jumpW_lt T _)] at hw
  refine ⟨_, t, c, exec_seed_of_tables hl hs ha hb, hrun, hc, fun hk => ?_, ?_, ?_, hres⟩
  · rw [hz, jumpZ_add_mul hT hk]
  · rw [hz, stepZ_iterate_jumpZ hT ha]
  · rw [hw, stepW_iterate_jumpW hT hb]

/-! ### What NEXT keeps, and the period of its pair (43_combined_stream.md R172) -/

/-- The pair of states repeats when both do. -/
theorem minimalPeriod_steps {z w : Nat} (hz : z < Config.M1) (hw : w < Config.M2) (hz3 : Nat.Coprime z 3)
    (hwM : Nat.Coprime w Config.M2) : Function.minimalPeriod (Prod.map stepZ stepW) (z, w) = 442147839029684451610254 := by
  obtain ⟨-, -, -, -, hperiodZ, -, -⟩ := periodOfTheLargeGenerator
  rw [Function.minimalPeriod_prodMap, hperiodZ z hz hz3, minimalPeriod_stepW_of_coprime hw hwM]
  norm_num

/-- Settles O59: RES0 is a combination, the steps keep a context in range, and the period is that of the pair. -/
theorem nextStaysInRangeAndRepeats : Obligations.NextStaysInRangeAndRepeats := by
  unfold Obligations.NextStaysInRangeAndRepeats
  refine ⟨fun s t l c hl hc hrange h => ?_, fun z w hz hw hz3 hwM => minimalPeriod_steps hz hw hz3 hwM⟩
  cases h.symm.trans (exec_next_of_lane hl hc)
  refine ⟨?_, _, laneLookup_laneInsert_same _ _ _, hrange.stepZ.stepW⟩
  rw [toNat_ofNat_combine]
  exact combine_lt _ _

end Sys2Proof.Machine
end
